-- ==== Sys2Proof/Word.lean ====
section
/-! DEFINITION. The words of the PWM servo decoder: one name for each width that 00_scope.md R7 and 10_state.md R20 give.
Bit 0 is the least significant bit of every word (R9). -/

namespace Sys2Proof

/-- A command word `cmd[7:0]`, CMD_W = 8 bits (R7, R60). -/
abbrev CmdWord := BitVec 8

/-- The read-data output RDATA[15:0], RDATA_W = 16 bits (R7, R70). -/
abbrev ReadData := BitVec 16

/-- One entry of the position register file, POS_W = 8 bits, two's complement (R20, R21). -/
abbrev Position := BitVec 8

/-- The channel sequencer IDX, IDX_W = 2 bits, unsigned (R20, R23). -/
abbrev SlotIndex := BitVec 2

/-- A counter of ticks, ITC_W = TSU_W = 16 bits, unsigned (R20, R24, R25). -/
abbrev TickCount := BitVec 16

/-- The timestamp timer TCNT, TCNT_W = 16 bits, unsigned (R20, R26). -/
abbrev TimerCount := BitVec 16

/-- One bit per input line, 0 ≤ l < N: the reference bits LVL (R32) and the port `in_line[2:0]` (R160). -/
abbrev LineLevels := Vector Bool 3

end Sys2Proof
end

