-- ==== Sys2Proof/Config.lean ====
section
/-! DEFINITION. The implementation parameters of 00_scope.md R7. They are fixed for the machine and are no state (R20).
No value of this block is left open by the spec (93_implementation_defined.md), so there is no opaque constant here. -/

namespace Sys2Proof

/-- The parameters of R7, one field for each row, in the order of its table. Times are in timer counts. -/
structure Config where
  /-- N, the number of channels. -/
  n : Nat
  /-- POS_W, the width of one position entry. -/
  posW : Nat
  /-- IDX_W, the width of the sequencer index. -/
  idxW : Nat
  /-- COUNT_UNIT, the time between two timer counts, in nanoseconds. -/
  countUnitNs : Nat
  /-- TCNT_W, the width of the timer. -/
  tcntW : Nat
  /-- ITC_W, the width of the gap counter. -/
  itcW : Nat
  /-- TSU_W, the width of the staleness counter. -/
  tsuW : Nat
  /-- TICK_PERIOD, an environment parameter, in counts. -/
  tickPeriod : Nat
  /-- RESYNC_TICKS, the resynchronisation threshold on the gap counter. -/
  resyncTicks : Nat
  /-- DEBOUNCE, the minimum noise threshold. -/
  debounce : Nat
  /-- WIN_LO, the lower end of the acceptance window, exclusive. -/
  winLo : Nat
  /-- WIN_HI, the upper end of the acceptance window, exclusive. -/
  winHi : Nat
  /-- CLAMP_LO, the lower clamp bound. -/
  clampLo : Nat
  /-- CLAMP_HI, the upper clamp bound. -/
  clampHi : Nat
  /-- CENTER, the centre of the mapping. -/
  center : Nat
  /-- SCALE_NUM, the numerator of the mapping's scale. -/
  scaleNum : Nat
  /-- SCALE_DEN, the denominator of the mapping's scale. -/
  scaleDen : Nat
  /-- NEUTRAL, the value read for a channel index of N or more. -/
  neutral : Nat
  /-- CMD_W, the width of a command word. -/
  cmdW : Nat
  /-- CH_W, the width of the channel operand of RDPOS. -/
  chW : Nat
  /-- RDATA_W, the width of the read-data output. -/
  rdataW : Nat
  deriving DecidableEq, Repr

/-- This hardware: the value column of R7. -/
def Config.hw : Config where
  n := 3
  posW := 8
  idxW := 2
  countUnitNs := 1000
  tcntW := 16
  itcW := 16
  tsuW := 16
  tickPeriod := 100
  resyncTicks := 50
  debounce := 400
  winLo := 800
  winHi := 2200
  clampLo := 1000
  clampHi := 2000
  center := 1500
  scaleNum := 255
  scaleDen := 1000
  neutral := 0
  cmdW := 8
  chW := 5
  rdataW := 16

end Sys2Proof
end

