-- ==== Sys2Proof/Machine/Arith.lean ====
section
/-! DEFINITION. The arithmetic primitives of 00_scope.md R10 and the pulse arithmetic of 41_edge.md R106 to R108, on exact
integers and for any parameters. Nothing here reads or writes the machine's state. -/

namespace Sys2Proof.Machine

/-- `sat_W(v) = min(v, 2^W − 1)` (R10). -/
def sat (w v : Nat) : Nat := min v (2 ^ w - 1)

/-- `clamp(v, lo, hi) = min(max(v, lo), hi)` (R10). -/
def clamp (v lo hi : Nat) : Nat := min (max v lo) hi

/-- `tdiv(a, b) = sign(a) · floor(|a| / b)`, the quotient rounded toward zero (R10; the choice of rounding is D12). -/
def tdiv (a : Int) (b : Nat) : Int := a.sign * ((a.natAbs / b : Nat) : Int)

/-- An elapsed value inside the acceptance window, both ends excluded (R106, D10). -/
def inWindow (c : Config) (e : Nat) : Bool := decide (c.winLo < e) && decide (e < c.winHi)

/-- The position of a clamped value, `tdiv((ec − CENTER) · SCALE_NUM, SCALE_DEN)` (R108). -/
def mapClamped (c : Config) (ec : Nat) : Int :=
  tdiv (((ec : Int) - (c.center : Int)) * (c.scaleNum : Int)) c.scaleDen

/-- The position an in-window elapsed value is stored as: clamp (R107), then map (R108). -/
def positionOf (c : Config) (e : Nat) : Int := mapClamped c (clamp e c.clampLo c.clampHi)

end Sys2Proof.Machine
end

