-- ==== Sys2Proof/Syntax.lean ====
section
/-! DEFINITION. The commands of the block, one constructor for each row of spec/opcode_table.json (30_encoding.md R61).
Operand fields are the encoding's own (R62, R63); which of their values are legal is WellFormed's. -/

namespace Sys2Proof

/-- The seven commands (R2, R61). -/
inductive Instr where
  /-- NOP: no operation (R80). -/
  | nop
  /-- RST: initialise the block (R81). -/
  | rst
  /-- CNT: advance the timestamp timer by one count (R82). -/
  | cnt
  /-- TICK: the periodic tick (R83). -/
  | tick
  /-- EDGE l, v: a transition on input line `l` to level `v`, `true` for rising and `false` for falling (R62, R100). -/
  | edge (l : BitVec 2) (v : Bool)
  /-- RDPOS ch: read one position (R63, R140). -/
  | rdpos (ch : BitVec 5)
  /-- RDTSU: read the staleness counter (R141). -/
  | rdtsu
  deriving DecidableEq, Repr

end Sys2Proof
end

