-- ==== Sys2Proof/WellFormed.lean ====
section
/-! DEFINITION. Which commands and which configurations the spec admits: the operand values that R62 to R64 leave legal,
and the constraints of R8 on the parameters. -/

namespace Sys2Proof

/-- A command with legal operands: EDGE's line is 0, 1 or 2, since `l = 3` "names no line and is reserved" (R62). Every
channel index is legal (R63), and the other commands take no operand (R64). -/
def Instr.wellFormed : Instr → Bool
  | .nop => true
  | .rst => true
  | .cnt => true
  | .tick => true
  | .edge l _ => l != 3#2
  | .rdpos _ => true
  | .rdtsu => true

/-- R8, first constraint: 1 ≤ N ≤ 2^CH_W, and IDX_W is the smallest width that holds N. -/
abbrev Config.ChannelsFit (c : Config) : Prop :=
  1 ≤ c.n ∧ c.n ≤ 2 ^ c.chW ∧ c.n < 2 ^ c.idxW ∧ 2 ^ (c.idxW - 1) ≤ c.n

/-- R8, second constraint: the thresholds in their order, all below the timer's range. -/
abbrev Config.ThresholdsOrdered (c : Config) : Prop :=
  0 < c.debounce ∧ c.debounce ≤ c.winLo ∧ c.winLo < c.clampLo ∧ c.clampLo ≤ c.center ∧ c.center ≤ c.clampHi ∧
    c.clampHi < c.winHi ∧ c.winHi < 2 ^ c.tcntW

/-- R8, third constraint: the mapping of R108 takes both clamp bounds into [-127, 127]. That the divisor is positive is
what R10 asks of `tdiv` (DEDUCED: notes/assumptions/10.md). -/
abbrev Config.MappingFits (c : Config) : Prop :=
  0 < c.scaleDen ∧ (-127 ≤ Machine.mapClamped c c.clampLo ∧ Machine.mapClamped c c.clampLo ≤ 127) ∧
    (-127 ≤ Machine.mapClamped c c.clampHi ∧ Machine.mapClamped c c.clampHi ≤ 127)

/-- R8, fourth constraint: 1 ≤ RESYNC_TICKS ≤ 2^ITC_W − 1. -/
abbrev Config.ResyncReachable (c : Config) : Prop :=
  1 ≤ c.resyncTicks ∧ c.resyncTicks ≤ 2 ^ c.itcW - 1

/-- R8, fifth constraint: TSU_W ≤ RDATA_W. -/
abbrev Config.StalenessReadable (c : Config) : Prop := c.tsuW ≤ c.rdataW

/-- The constraints of R8 together. Outside them "the spec says nothing" and the configuration is refused (K11). -/
abbrev Config.Admissible (c : Config) : Prop :=
  c.ChannelsFit ∧ c.ThresholdsOrdered ∧ c.MappingFits ∧ c.ResyncReachable ∧ c.StalenessReadable

end Sys2Proof
end

