-- ==== Sys2Proof/Decode.lean ====
section
/-! DEFINITION. The decoder of 30_encoding.md R60 to R68, total over the 256 command words and refusing each reserved word
by name, and the encoder of R71 after it. -/

namespace Sys2Proof

/-- The classes of reserved words that R65 lists. -/
inductive DecodeError where
  /-- An operand-less command with a nonzero arg field (R64, R65). -/
  | nonzeroArgument
  /-- EDGE with `arg[4:3] ≠ 00` (R62, R65). -/
  | edgeHighBits
  /-- EDGE with `l = 3`, which names no line (R62, R65). -/
  | edgeLineThree
  /-- op = 111, kept for future use (R65, R66). -/
  | reservedOp
  deriving DecidableEq, Repr

/-- The op field, `cmd[7:5]` (R60). -/
def opField (w : CmdWord) : BitVec 3 := w.extractLsb' 5 3

/-- The arg field, `cmd[4:0]` (R60). -/
def argField (w : CmdWord) : BitVec 5 := w.extractLsb' 0 5

/-- EDGE's line, `l = arg[1:0]` (R62). -/
def lineField (w : CmdWord) : BitVec 2 := w.extractLsb' 0 2

/-- EDGE's new level, `v = arg[2]` (R62). -/
def levelField (w : CmdWord) : Bool := w.getLsbD 2

/-- EDGE's bits that must be 00, `arg[4:3]` (R62). -/
def edgeZeroField (w : CmdWord) : BitVec 2 := w.extractLsb' 3 2

/-- A command without operand: its arg field must be 00000 (R64). -/
def decodePlain (w : CmdWord) (i : Instr) : Except DecodeError Instr :=
  if argField w = 0#5 then .ok i else .error .nonzeroArgument

/-- EDGE: `arg[4:3]` must be 00 and the line must not be 3 (R62, R68). -/
def decodeEdge (w : CmdWord) : Except DecodeError Instr :=
  if edgeZeroField w = 0#2 then
    if lineField w = 3#2 then .error .edgeLineThree else .ok (.edge (lineField w) (levelField w))
  else .error .edgeHighBits

/-- The decode function of R68. -/
def decode (w : CmdWord) : Except DecodeError Instr :=
  match (opField w).toNat with
  | 0 => decodePlain w .nop
  | 1 => decodePlain w .rst
  | 2 => decodePlain w .cnt
  | 3 => decodePlain w .tick
  | 4 => decodeEdge w
  | 5 => .ok (.rdpos (argField w))
  | 6 => decodePlain w .rdtsu
  | _ => .error .reservedOp

/-- The instruction the decoder reads from a table word of `nbits` bits: a command is one word of 8 bits (R60, R67), so a
value that does not fit in it is no command. -/
def decodeTableWord (nbits w : Nat) : Option Instr :=
  if w % 2 ^ nbits < 256 then (decode (BitVec.ofNat 8 (w % 2 ^ nbits))).toOption else none

/-- The word of a command (R61, R71): the op field above the arg field, EDGE's arg being `00 v l[1:0]`. -/
def encode : Instr → CmdWord
  | .nop => 0#3 ++ 0#5
  | .rst => 1#3 ++ 0#5
  | .cnt => 2#3 ++ 0#5
  | .tick => 3#3 ++ 0#5
  | .edge l v => 4#3 ++ (0#2 ++ (BitVec.ofBool v ++ l))
  | .rdpos ch => 5#3 ++ ch
  | .rdtsu => 6#3 ++ 0#5

end Sys2Proof
end

