-- ==== Sys2Proof/Machine/State.lean ====
section
/-! DEFINITION. The machine's state as plain data: the state tuple of 10_state.md R20, the edge front end's reference bits of
R32, the ports of 60_exceptions.md R160 that the rules read or drive, and the model's own list of waiting inputs. -/

namespace Sys2Proof.Machine

/-- The agents that issue commands (20_memory.md R47), and the `rst` port (R160, R170). -/
inductive Agent where
  /-- The timebase, whose command is CNT. -/
  | timebase
  /-- The tick source, whose command is TICK. -/
  | tickSource
  /-- The edge front end, whose command is EDGE. -/
  | edgeFrontEnd
  /-- The host, the consumer of the accessors. -/
  | host
  /-- The power-on reset port. -/
  | resetPort
  deriving DecidableEq, Repr

/-- What can arrive at the block's ports (R160), one element for each arrival. -/
inductive Input where
  /-- A pulse of `cnt_strobe`, which is a CNT command (R160, R82). -/
  | cntStrobe
  /-- A pulse of `tick_strobe`, which is a TICK command (R160, R83, R153). -/
  | tickStrobe
  /-- The port `in_line[l]` stands at level `v` from now on (R154, R160). -/
  | lineLevel (l : Fin 3) (v : Bool)
  /-- An EDGE command that no transition caused, from contact bounce or noise (R154, K9). -/
  | extraEdge (l : Fin 3) (v : Bool)
  /-- Agent `a` presents the command word `w`. Any agent may issue any command (R46, R158). -/
  | command (a : Agent) (w : CmdWord)
  /-- The port `rst` is asserted while the input lines stand at `levels` (R160, R170). -/
  | powerOnReset (levels : LineLevels)
  deriving DecidableEq, Repr

/-- The whole state. The first five fields are the tuple `S` of R20. -/
@[ext]
structure State where
  /-- POS[0..2], the position register file (R20, R21). -/
  pos : Vector Position 3
  /-- IDX, the channel sequencer (R20, R23). -/
  idx : SlotIndex
  /-- ITC, the gap counter in ticks (R20, R24). -/
  itc : TickCount
  /-- TSU, the staleness counter in ticks (R20, R25). -/
  tsu : TickCount
  /-- TCNT, the timestamp timer in counts (R20, R26). -/
  tcnt : TimerCount
  /-- LVL[0..2], the edge front end's reference bits (R32). -/
  lvl : LineLevels
  /-- `in_line[2:0]`, the input lines' present levels (R160), which RST samples (R32, R81). -/
  inLine : LineLevels
  /-- RDATA[15:0] as the latest command drove it (R70), the second result of R11's step (notes/assumptions/4.md). -/
  rdata : ReadData
  /-- The MODEL's own field: what waits at the ports, in the one total order of R48, the next one first
  (notes/assumptions/1.md and 2.md). It is no state of the block (R20). -/
  inputs : List Input
  deriving DecidableEq, Repr

/-- No fault: "The block raises no exception, trap or fault" (R150) and no command ends in one
(93_implementation_defined.md). The type has no constructor, so no step can end in a fault (notes/assumptions/11.md). -/
inductive Fault where
  deriving DecidableEq, Repr

/-- Why a step can stop. -/
inductive Refusal where
  /-- Raised by `exec`'s arm of an instruction that has no meaning yet. No arm raises it in this model. Safe. -/
  | notModelled (mnemonic : String)
  /-- Raised when the word a step takes is reserved, with the class of R65 it falls in. The hardware executes such a word
  as NOP and the spec directs a model to refuse it (R65, K10). Safe: the model stops where the hardware goes on
  (notes/assumptions/9.md). -/
  | reservedCommand (why : DecodeError) (w : CmdWord)
  /-- Raised by `step` when the parameters of `Config.hw` break a constraint of R8 (K11). With the values of R7 it is never
  raised. Safe: outside R8 the spec says nothing (notes/assumptions/10.md). -/
  | configurationRefused
  deriving DecidableEq, Repr

/-- The machine right after reset (R31, R170): every register 0, each LVL bit at its line's present level, nothing waiting.
RDATA is 0 as RST drives it (DEDUCED: notes/assumptions/4.md). The spec leaves the input lines' levels at reset to the
environment; the model takes them low (DESIGN CHOICE: notes/assumptions/5.md). -/
def State.reset : State where
  pos := Vector.replicate 3 0
  idx := 0
  itc := 0
  tsu := 0
  tcnt := 0
  lvl := Vector.replicate 3 false
  inLine := Vector.replicate 3 false
  rdata := 0
  inputs := []

end Sys2Proof.Machine
end

