-- ==== Sys2Proof/Machine/Operands.lean ====
section
/-! DEFINITION. The operand forms: RDPOS's channel index, the only index space of the block (20_memory.md R40, R45), and the
line operand of the EDGE commands that the front end issues (30_encoding.md R62). -/

namespace Sys2Proof.Machine

/-- Entry `i` of the position register file. Indices outside the file are never read (R22, R45). -/
def State.posAt (s : State) (i : Nat) : Position := s.pos[i]?.getD 0

/-- The channel index map of RDPOS (R45, R140): `sext_16(POS[ch])` below N, else `zext_16(NEUTRAL)`. -/
def State.readChannel (s : State) (ch : BitVec 5) : ReadData :=
  if ch.toNat < Config.hw.n then (s.posAt ch.toNat).signExtend 16 else BitVec.ofNat 16 Config.hw.neutral

/-- `zext_16(TSU)` (R141). -/
def State.readStaleness (s : State) : ReadData := s.tsu.setWidth 16

/-- The operand field that names input line `l` (R62). -/
def lineOperand (l : Fin 3) : BitVec 2 := BitVec.ofNat 2 l.val

end Sys2Proof.Machine
end

