-- ==== Sys2Proof/Machine/Flags.lean ====
section
/-! DEFINITION. The block has no flags, condition codes or predicate registers (10_state.md R28). What stands here are the
conditions that EDGE tests (41_edge.md R100), the kind of an edge that they decide (R114), and the mode that R28 derives from
IDX as a reading aid. None of them is stored. -/

namespace Sys2Proof.Machine

/-- `ITC ≥ RESYNC_TICKS`: an EDGE taken now is a resync edge (R101). -/
def State.resyncDue (s : State) : Bool := decide (Config.hw.resyncTicks ≤ s.itc.toNat)

/-- `IDX < N`: a slot waits for its edge (R102, R103). -/
def State.slotOpen (s : State) : Bool := decide (s.idx.toNat < Config.hw.n)

/-- The elapsed value `e = TCNT` (R103). -/
def State.elapsed (s : State) : Nat := s.tcnt.toNat

/-- `e < DEBOUNCE`: the edge is ignored (R104). -/
def State.tooClose (s : State) : Bool := decide (s.elapsed < Config.hw.debounce)

/-- The five kinds of EDGE (R114). -/
inductive EdgeKind where
  /-- Taken by R101. -/
  | resync
  /-- Taken by R102. -/
  | completedCycle
  /-- Ignored by R104. -/
  | debounced
  /-- Accepted and in-window (R105, R106, R110). -/
  | stored
  /-- Accepted and out of window (R105, R110). -/
  | held
  deriving DecidableEq, Repr

/-- The kind of an EDGE taken in this state (R114). -/
def State.edgeKind (s : State) : EdgeKind :=
  if s.resyncDue then .resync
  else if s.slotOpen then
    if s.tooClose then .debounced
    else if inWindow Config.hw s.elapsed then .stored
    else .held
  else .completedCycle

/-- An accepted edge, in-window or not (R105). -/
def EdgeKind.accepted : EdgeKind → Bool
  | .resync => false
  | .completedCycle => false
  | .debounced => false
  | .stored => true
  | .held => true

/-- The mode that R28 derives from IDX. -/
inductive Mode where
  /-- The next accepted edge belongs to slot `i`. At reset the source calls it SYNCING (R28). -/
  | decoding (i : Nat)
  /-- "cycle complete, awaiting resync". -/
  | complete
  deriving DecidableEq, Repr

/-- `mode(S)` (R28, D25). No command reads it. -/
def State.mode (s : State) : Mode := if s.slotOpen then .decoding s.idx.toNat else .complete

end Sys2Proof.Machine
end

