-- ==== Sys2Proof/Machine/Ops.lean ====
section
/-! DEFINITION. The named operations over the registers and the front end, each one write of the pseudocode of
40_init_and_timebase.md and 41_edge.md. There is no memory (R40) and no exception: nothing traps, so there is no trap entry,
no saved register and no return (R150, R157), and no operation for them. -/

namespace Sys2Proof.Machine

/-- `RDATA <- v` (R10, R70). -/
def State.drive (v : ReadData) (s : State) : State := { s with rdata := v }

/-- `POS[i] <- p`, as 8-bit two's complement (R10, R110). -/
def State.writePos (i : Nat) (p : Int) (s : State) : State :=
  { s with pos := s.pos.setIfInBounds i (BitVec.ofInt 8 p) }

/-- `for i in 0..N-1: POS[i] <- 0` (R81). -/
def State.clearPositions (s : State) : State := { s with pos := Vector.replicate 3 0 }

/-- `IDX <- 0` (R81, R101). -/
def State.clearIndex (s : State) : State := { s with idx := 0 }

/-- `IDX <- IDX + 1` (R111). It is taken only below N = 3, so it does not wrap. -/
def State.incrementIndex (s : State) : State := { s with idx := s.idx + 1 }

/-- `ITC <- 0` (R81, R101, R112). -/
def State.clearGap (s : State) : State := { s with itc := 0 }

/-- `ITC <- sat_16(ITC + 1)` (R83). -/
def State.tickGap (s : State) : State := { s with itc := BitVec.ofNat 16 (sat Config.hw.itcW (s.itc.toNat + 1)) }

/-- `TSU <- 0` (R81, R111). -/
def State.clearStaleness (s : State) : State := { s with tsu := 0 }

/-- `TSU <- sat_16(TSU + 1)` (R83). -/
def State.tickStaleness (s : State) : State := { s with tsu := BitVec.ofNat 16 (sat Config.hw.tsuW (s.tsu.toNat + 1)) }

/-- `TCNT <- 0` (R81, R101, R105). -/
def State.clearTimer (s : State) : State := { s with tcnt := 0 }

/-- `TCNT <- (TCNT + 1) mod 2^16` (R82). -/
def State.countTimer (s : State) : State := { s with tcnt := BitVec.ofNat 16 ((s.tcnt.toNat + 1) % 2 ^ Config.hw.tcntW) }

/-- Each LVL[l] takes its line's present level (R32, R81). -/
def State.rearmLines (s : State) : State := { s with lvl := s.inLine }

/-- The port `in_line[l]` goes to level `v` (R160). -/
def State.setLine (l : Fin 3) (v : Bool) (s : State) : State := { s with inLine := s.inLine.set l v }

/-- The input lines stand at `levels` (R160). -/
def State.setLines (levels : LineLevels) (s : State) : State := { s with inLine := levels }

/-- `LVL[l]` is set to the new level `v` (R154). -/
def State.setReference (l : Fin 3) (v : Bool) (s : State) : State := { s with lvl := s.lvl.set l v }

/-- The inputs that wait are `is`. -/
def State.withInputs (is : List Input) (s : State) : State := { s with inputs := is }

end Sys2Proof.Machine
end

