-- ==== Sys2Proof/Machine/Accessors.lean ====
section
/-! DEFINITION. The accessor commands of 42_accessors.md. Neither writes any state; each drives RDATA. -/

namespace Sys2Proof.Machine

/-- RDPOS ch (R140). An index of N or more is no error (R151). -/
def execRdpos (ch : BitVec 5) (s : State) : Host.Outcome State Fault Refusal := .next (s.drive (s.readChannel ch))

/-- RDTSU (R141). -/
def execRdtsu (s : State) : Host.Outcome State Fault Refusal := .next (s.drive s.readStaleness)

end Sys2Proof.Machine
end

