-- ==== Sys2Proof/Machine/Edge.lean ====
section
/-! DEFINITION. The edge command of 41_edge.md: resynchronisation, debounce, store or hold, and the channel sequencer, in the
order of R100's pseudocode. -/

namespace Sys2Proof.Machine

/-- The resync edge's own effect: IDX, ITC and TCNT are cleared, POS and TSU stay (R101). -/
def State.resynchronise (s : State) : State := s.clearIndex.clearGap.clearTimer

/-- Store or hold (R110): an in-window `e` is written to the slot IDX names, any other leaves the slot's last value. -/
def State.storeOrHold (e : Nat) (s : State) : State :=
  if inWindow Config.hw e then s.writePos s.idx.toNat (positionOf Config.hw e) else s

/-- `IDX <- IDX + 1`, and `TSU <- 0` when the new IDX is N (R111). -/
def State.advanceSequencer (s : State) : State :=
  if s.incrementIndex.idx.toNat = Config.hw.n then s.incrementIndex.clearStaleness else s.incrementIndex

/-- An accepted edge up to its clear of ITC: the measurement is consumed whatever it is (R105), then stored or held (R110),
then the sequencer advances (R111). -/
def State.acceptEdge (s : State) : State := (s.clearTimer.storeOrHold s.elapsed).advanceSequencer

/-- The state change of EDGE, its conditions in R100's order. The last line of R100 (`ITC <- 0`, R112) is reached by an
accepted edge and by a completed-cycle edge (R102). The debounce that leaves the reference where it is (R104) is as the spec
says, UNVERIFIED against real sensors (K1, notes/assumptions/13.md). -/
def State.takeEdge (s : State) : State :=
  if s.resyncDue then s.resynchronise
  else if s.slotOpen then
    if s.tooClose then s else s.acceptEdge.clearGap
  else s.clearGap

/-- EDGE l, v (R100). No step of it reads `l` or `v` (R113). -/
def execEdge (_l : BitVec 2) (_v : Bool) (s : State) : Host.Outcome State Fault Refusal := .next (s.takeEdge.drive 0)

end Sys2Proof.Machine
end

