-- ==== Sys2Proof/Machine/InitTimebase.lean ====
section
/-! DEFINITION. The initialisation and timebase commands of 40_init_and_timebase.md: NOP, RST, CNT, TICK. -/

namespace Sys2Proof.Machine

/-- NOP (R80): RDATA is 0 and no state is written. -/
def execNop (s : State) : Host.Outcome State Fault Refusal := .next (s.drive 0)

/-- The state change of RST (R81): every register 0, and the edge front end re-armed (R32). -/
def State.initialise (s : State) : State :=
  s.clearPositions.clearIndex.clearGap.clearStaleness.clearTimer.rearmLines

/-- RST (R81). -/
def execRst (s : State) : Host.Outcome State Fault Refusal := .next (s.initialise.drive 0)

/-- CNT (R82): one count of the timer, wrapping with no flag. -/
def execCnt (s : State) : Host.Outcome State Fault Refusal := .next (s.countTimer.drive 0)

/-- TICK (R83): the two counters, each saturating on its own. -/
def execTick (s : State) : Host.Outcome State Fault Refusal := .next (s.tickGap.tickStaleness.drive 0)

end Sys2Proof.Machine
end

