-- ==== Sys2Proof/Machine/Dispatch.lean ====
section
/-! DEFINITION. The meaning of each command, one arm for each constructor of Instr. -/

namespace Sys2Proof.Machine

/-- One command as one atomic step (00_scope.md R11). -/
def exec (i : Instr) (s : State) : Host.Outcome State Fault Refusal :=
  match i with
  | .nop => Sys2Proof.Machine.execNop s
  | .rst => Sys2Proof.Machine.execRst s
  | .cnt => Sys2Proof.Machine.execCnt s
  | .tick => Sys2Proof.Machine.execTick s
  | .edge l v => Sys2Proof.Machine.execEdge l v s
  | .rdpos ch => Sys2Proof.Machine.execRdpos ch s
  | .rdtsu => Sys2Proof.Machine.execRdtsu s

end Sys2Proof.Machine
end

