-- ==== Sys2Proof/Machine/Serve.lean ====
section
/-! DEFINITION. How an arrival at a port becomes a command (60_exceptions.md R154, R160, 70_reset_and_hazards.md R170), and
how the block takes the arrivals one at a time in the total order of 20_memory.md R48. -/

namespace Sys2Proof.Machine

/-- A command word is decoded and executed as one atomic step (R11, R68). A reserved word is refused (R65, K10). -/
def runWord (w : CmdWord) (s : State) : Host.Outcome State Fault Refusal :=
  match decode w with
  | .ok i => exec i s
  | .error why => .refused (.reservedCommand why w)

/-- The edge front end on line `l` when `in_line[l]` stands at `v` (R154): a level that differs from LVL[l] is a transition,
which sets LVL[l] and issues one `EDGE l, v`; a level equal to LVL[l] is none, and no command is issued. Taking the level and
executing its EDGE are one step of the model (DESIGN CHOICE: notes/assumptions/6.md). -/
def State.sampleLine (l : Fin 3) (v : Bool) (s : State) : Host.Outcome State Fault Refusal :=
  if s.lvl[l] = v then .next (s.setLine l v)
  else runWord (encode (.edge (lineOperand l) v)) ((s.setLine l v).setReference l v)

/-- One arrival: the command it carries or causes. An extra EDGE touches neither LVL nor `in_line` (K9,
notes/assumptions/7.md); the agent of a command is not looked at (R158); `rst` has the effect of one RST command (R170). -/
def State.takeInput (i : Input) (s : State) : Host.Outcome State Fault Refusal :=
  match i with
  | .cntStrobe => runWord (encode .cnt) s
  | .tickStrobe => runWord (encode .tick) s
  | .lineLevel l v => s.sampleLine l v
  | .extraEdge l v => runWord (encode (.edge (lineOperand l) v)) s
  | .command _ w => runWord w s
  | .powerOnReset levels => runWord (encode .rst) (s.setLines levels)

/-- The next arrival is taken, each as one atomic step (R48). With none the block stays in its state (K14, R170:
notes/assumptions/3.md). -/
def State.serve (s : State) : Host.Outcome State Fault Refusal :=
  match s.inputs with
  | [] => .next s
  | i :: rest => (s.withInputs rest).takeInput i

/-- The port an arrival comes from (R47, R160). -/
def Input.agent : Input → Agent
  | .cntStrobe => .timebase
  | .tickStrobe => .tickSource
  | .lineLevel _ _ => .edgeFrontEnd
  | .extraEdge _ _ => .edgeFrontEnd
  | .command a _ => a
  | .powerOnReset _ => .resetPort

/-- The relation of R48: `order` is a total order of what the agents issued, in which the arrivals of each agent keep their
issue order and nothing else is fixed (notes/assumptions/2.md). -/
def Serialises (issued : Agent → List Input) (order : List Input) : Prop :=
  ∀ a, order.filter (fun i => i.agent = a) = issued a

end Sys2Proof.Machine
end

