-- ==== Sys2Proof/Machine/Step.lean ====
section
/-! DEFINITION. One step of the machine, and how the host's next command word is placed. -/

namespace Sys2Proof.Machine

/-- One step: a configuration that breaks R8 is refused (K11); otherwise the next arrival is taken (R11, R48). -/
def step (s : State) : Host.Outcome State Fault Refusal :=
  if Config.hw.Admissible then s.serve else .refused .configurationRefused

/-- `s` with the command word `w` (the low `nbits` bits of it) presented by the host ahead of everything that waits, so that
the next step takes it. The block fetches nothing (R27, R53): commands arrive (notes/assumptions/1.md and 19.md). -/
def State.withFetchWord (s : State) (nbits w : Nat) : State :=
  s.withInputs (.command .host (BitVec.ofNat 8 (w % 2 ^ nbits)) :: s.inputs)

end Sys2Proof.Machine
end

