-- ==== Sys2Proof/Machine/Assembler.lean ====
section
/-! DEFINITION. The command text of 30_encoding.md R71 and the pseudo-commands of R72. The assembler is no part of the block;
it says which words a line of text stands for. What R71 leaves open about spacing and numbers is in notes/assumptions/16.md. -/

namespace Sys2Proof.Machine

/-- A line of assembler text: a command (R71) or a pseudo-command (R72). -/
inductive AsmLine where
  /-- One command. -/
  | command (i : Instr)
  /-- `WAIT k`: k copies of CNT. -/
  | wait (k : Nat)
  /-- `TICKS k`: k copies of TICK. -/
  | ticks (k : Nat)
  /-- `ELAPSE c, t`: c copies of CNT and t copies of TICK. -/
  | elapse (c t : Nat)
  deriving DecidableEq, Repr

/-- The expansions of a line (R72). ELAPSE admits every interleaving, the others have one expansion each. -/
def AsmLine.Expands : AsmLine → List Instr → Prop
  | .command i, is => is = [i]
  | .wait k, is => is = List.replicate k .cnt
  | .ticks k, is => is = List.replicate k .tick
  | .elapse c t, is => is.count .cnt = c ∧ is.count .tick = t ∧ is.length = c + t

/-- The expansion the assembler writes: for ELAPSE all counts first, then all ticks (DESIGN CHOICE, one of the interleavings
that R72 admits: notes/assumptions/17.md). -/
def AsmLine.instrs : AsmLine → List Instr
  | .command i => [i]
  | .wait k => List.replicate k .cnt
  | .ticks k => List.replicate k .tick
  | .elapse c t => List.replicate c .cnt ++ List.replicate t .tick

/-- Blank characters. -/
def isBlank (c : Char) : Bool := c == ' ' || c == '\t'

/-- Text without leading and trailing blanks. -/
def trimBlanks (t : List Char) : List Char := (((t.dropWhile isBlank).reverse).dropWhile isBlank).reverse

/-- Text cut at its commas. -/
def splitCommas : List Char → List (List Char)
  | [] => [[]]
  | c :: cs =>
    match splitCommas cs with
    | [] => [[c]]
    | piece :: rest => if c = ',' then [] :: piece :: rest else (c :: piece) :: rest

/-- The value of a digit in the given base. -/
def digitValue (base : Nat) (c : Char) : Option Nat :=
  let v :=
    if '0' ≤ c ∧ c ≤ '9' then c.toNat - 48
    else if 'a' ≤ c ∧ c ≤ 'f' then c.toNat - 87
    else if 'A' ≤ c ∧ c ≤ 'F' then c.toNat - 55
    else base
  if v < base then some v else none

/-- The value of a run of digits, the first the most significant. -/
def digitsValue (base acc : Nat) : List Char → Option Nat
  | [] => some acc
  | c :: cs => (digitValue base c).bind (fun v => digitsValue base (acc * base + v) cs)

/-- A number in decimal or, after `0x`, in hexadecimal (R71). It has at least one digit. -/
def parseNumber : List Char → Option Nat
  | [] => none
  | '0' :: 'x' :: [] => none
  | '0' :: 'x' :: c :: cs => digitsValue 16 0 (c :: cs)
  | c :: cs => digitsValue 10 0 (c :: cs)

/-- EDGE's level operand, `r` for rising and `f` for falling (R71). -/
def parseLevel : List Char → Option Bool
  | ['r'] => some true
  | ['f'] => some false
  | _ => none

/-- The line that a mnemonic and its operands spell, none for any other spelling (R71, R72). -/
def parseLine (mnemonic : List Char) (args : List (List Char)) : Option AsmLine :=
  match args with
  | [] =>
    if mnemonic = "NOP".toList then some (.command .nop)
    else if mnemonic = "RST".toList then some (.command .rst)
    else if mnemonic = "CNT".toList then some (.command .cnt)
    else if mnemonic = "TICK".toList then some (.command .tick)
    else if mnemonic = "RDTSU".toList then some (.command .rdtsu)
    else none
  | [a] =>
    (parseNumber a).bind fun k =>
      if mnemonic = "RDPOS".toList then
        if k < 32 then some (.command (.rdpos (BitVec.ofNat 5 k))) else none
      else if mnemonic = "WAIT".toList then some (.wait k)
      else if mnemonic = "TICKS".toList then some (.ticks k)
      else none
  | [a, b] =>
    (parseNumber a).bind fun k =>
      if mnemonic = "EDGE".toList then
        if k < 3 then (parseLevel b).map (fun v => .command (.edge (BitVec.ofNat 2 k) v)) else none
      else if mnemonic = "ELAPSE".toList then (parseNumber b).map (fun t => .elapse k t)
      else none
  | _ => none

/-- The operands of a line after its mnemonic, cut at commas. -/
def operandTexts (t : List Char) : List (List Char) :=
  if trimBlanks t = [] then [] else (splitCommas t).map trimBlanks

/-- One line of text (R71): the comment after `;` dropped, the mnemonic up to the first blank, then the operands. An empty
line is no command (`some none`), and a spelling R71 and R72 do not give is rejected (`none`). -/
def readLine (t : List Char) : Option (Option AsmLine) :=
  let body := trimBlanks (t.takeWhile (fun c => c != ';'))
  if body = [] then some none
  else (parseLine (body.takeWhile (fun c => !isBlank c)) (operandTexts (body.dropWhile (fun c => !isBlank c)))).map some

/-- The command words one line of text stands for (R71, R72), none where the assembler rejects it. -/
def assembleLine (t : List Char) : Option (List CmdWord) :=
  (readLine t).map (fun
    | none => []
    | some l => l.instrs.map encode)

/-- The decimal spelling of a channel index or line. -/
def decimalText (k : Nat) : List Char :=
  if k < 10 then [Char.ofNat (48 + k)] else [Char.ofNat (48 + k / 10), Char.ofNat (48 + k % 10)]

/-- The spelling of a command in R71's table. -/
def commandText : Instr → List Char
  | .nop => "NOP".toList
  | .rst => "RST".toList
  | .cnt => "CNT".toList
  | .tick => "TICK".toList
  | .edge l v => "EDGE ".toList ++ decimalText l.toNat ++ ", ".toList ++ (if v then ['r'] else ['f'])
  | .rdpos ch => "RDPOS ".toList ++ decimalText ch.toNat
  | .rdtsu => "RDTSU".toList

end Sys2Proof.Machine
end

