-- ==== Sys2Proof/Safety.lean ====
section
/-! DEFINITION. The terms claims use: what a safe state is (10_state.md R33), sequences of commands, and what an observer of a
sequence sees. -/

namespace Sys2Proof.Machine

/-- Every stored position lies in [-127, 127] (R21, R33). -/
def State.PositionsInRange (s : State) : Prop := ∀ i : Fin 3, -127 ≤ (s.pos[i]).toInt ∧ (s.pos[i]).toInt ≤ 127

/-- `IDX ≤ N` (R23, R33). -/
def State.IndexLegal (s : State) : Prop := s.idx.toNat ≤ 3

/-- The gap counter is at most the staleness counter. -/
def State.GapWithinStaleness (s : State) : Prop := s.itc.toNat ≤ s.tsu.toNat

/-- Each reference bit stands at its line's present level. -/
def State.ReferencesTrackLines (s : State) : Prop := s.lvl = s.inLine

/-- The commands one after another (R48), stopping at the first that does not answer a next state. -/
def execSeq : List Instr → State → Host.Outcome State Fault Refusal
  | [], s => .next s
  | i :: is, s =>
    match exec i s with
    | .next t => execSeq is t
    | .fault f => .fault f
    | .refused r => .refused r

/-- The read data each command of a sequence drives (R70). -/
def readDataOf : List Instr → State → List ReadData
  | [], _ => []
  | i :: is, s =>
    match exec i s with
    | .next t => t.rdata :: readDataOf is t
    | .fault _ => []
    | .refused _ => []

/-- An EDGE command. -/
def isEdge : Instr → Bool
  | .edge _ _ => true
  | .nop => false
  | .rst => false
  | .cnt => false
  | .tick => false
  | .rdpos _ => false
  | .rdtsu => false

/-- A command that is neither EDGE nor RST. -/
def isQuiet : Instr → Bool
  | .edge _ _ => false
  | .rst => false
  | .nop => true
  | .cnt => true
  | .tick => true
  | .rdpos _ => true
  | .rdtsu => true

/-- An accessor command (42_accessors.md). -/
def isAccessor : Instr → Bool
  | .rdpos _ => true
  | .rdtsu => true
  | .nop => false
  | .rst => false
  | .cnt => false
  | .tick => false
  | .edge _ _ => false

/-- The kinds (R114) of the EDGE commands of a sequence, in order. -/
def edgeKindsOf : List Instr → State → List EdgeKind
  | [], _ => []
  | i :: is, s =>
    match exec i s with
    | .next t => if isEdge i then s.edgeKind :: edgeKindsOf is t else edgeKindsOf is t
    | .fault _ => []
    | .refused _ => []

/-- How many edges of a sequence are accepted (R105). -/
def acceptedIn (is : List Instr) (s : State) : Nat := (edgeKindsOf is s).countP EdgeKind.accepted

end Sys2Proof.Machine
end

