-- ==== Sys2Proof/Certificates/Slice0/Obligations.lean ====
section
/-! DEFINITION. The statements for the provers, from the numbered rules of spec/. Numbers are written out as the rules print
them, not taken from Config, so that a wrong parameter makes a statement false. -/

open Sys2Proof Sys2Proof.Machine

/-! ## Initialisation and timebase (40_init_and_timebase.md) -/

/-- R80: the word, the effect, and that a NOP changes no later result: no command reads what NOP writes. -/
def Obligations.NopDrivesZeroAndIsTransparent : Prop :=
  decode 0x00#8 = .ok .nop ∧
  (∀ s : State, exec .nop s = .next { s with rdata := 0 }) ∧
  (∀ (i : Instr) (s : State), exec i { s with rdata := 0 } = exec i s)

/-- R81: the word; every register 0 and each reference bit at its line's level; idempotent; the two counts go on after it;
a line that stands where RST saw it causes no EDGE. -/
def Obligations.RstZeroesRegistersAndRearmsLines : Prop :=
  decode 0x20#8 = .ok .rst ∧
  ∀ s : State, ∃ t : State, exec .rst s = .next t ∧
    t = { pos := #v[0, 0, 0], idx := 0, itc := 0, tsu := 0, tcnt := 0, lvl := s.inLine, inLine := s.inLine, rdata := 0,
          inputs := s.inputs } ∧
    exec .rst t = .next t ∧
    exec .cnt t = .next { t with tcnt := 1 } ∧
    exec .tick t = .next { t with itc := 1, tsu := 1 } ∧
    ∀ (l : Fin 3) (rest : List Input),
      step { t with inputs := .lineLevel l t.inLine[l] :: rest } = .next { t with inputs := rest }

/-- R82: the word, the count modulo 2^16 and nothing else, and that each pulse of the timebase is one CNT. The rate of the
pulses is the environment's. -/
def Obligations.CntAdvancesTimerModuloTwoToSixteen : Prop :=
  decode 0x40#8 = .ok .cnt ∧
  (∀ s : State, exec .cnt s = .next { s with tcnt := BitVec.ofNat 16 ((s.tcnt.toNat + 1) % 65536), rdata := 0 }) ∧
  (∀ s : State, s.tcnt = 0xFFFF#16 → exec .cnt s = .next { s with tcnt := 0, rdata := 0 }) ∧
  (∀ (s : State) (rest : List Input), s.inputs = .cntStrobe :: rest → step s = exec .cnt { s with inputs := rest })

/-- R83: the word, the two counters saturating each on its own and nothing else, and that each pulse of the tick source is
one TICK. -/
def Obligations.TickSaturatesBothCounters : Prop :=
  decode 0x60#8 = .ok .tick ∧
  (∀ s : State, exec .tick s =
    .next { s with itc := BitVec.ofNat 16 (min (s.itc.toNat + 1) 65535),
                   tsu := BitVec.ofNat 16 (min (s.tsu.toNat + 1) 65535), rdata := 0 }) ∧
  (∀ s : State, s.itc = 0xFFFF#16 → s.tsu = 0xFFFF#16 → exec .tick s = .next { s with rdata := 0 }) ∧
  (∀ (s : State) (rest : List Input), s.inputs = .tickStrobe :: rest → step s = exec .tick { s with inputs := rest })

/-! ## EDGE (41_edge.md) -/

/-- R114's table: the condition on entry that decides each kind, and each kind's whole effect. -/
def Obligations.EdgeHasExactlyOneOfFiveEffects : Prop :=
  (∀ s : State,
    (s.edgeKind = .resync ↔ 50 ≤ s.itc.toNat) ∧
    (s.edgeKind = .completedCycle ↔ s.itc.toNat < 50 ∧ s.idx.toNat = 3) ∧
    (s.edgeKind = .debounced ↔ s.itc.toNat < 50 ∧ s.idx.toNat < 3 ∧ s.tcnt.toNat < 400) ∧
    (s.edgeKind = .stored ↔ s.itc.toNat < 50 ∧ s.idx.toNat < 3 ∧ 800 < s.tcnt.toNat ∧ s.tcnt.toNat < 2200) ∧
    (s.edgeKind = .held ↔ s.itc.toNat < 50 ∧ s.idx.toNat < 3 ∧
      ((400 ≤ s.tcnt.toNat ∧ s.tcnt.toNat ≤ 800) ∨ 2200 ≤ s.tcnt.toNat))) ∧
  (∀ (l : BitVec 2) (v : Bool) (s : State),
    (s.edgeKind = .resync → exec (.edge l v) s = .next { s with idx := 0, itc := 0, tcnt := 0, rdata := 0 }) ∧
    (s.edgeKind = .completedCycle → exec (.edge l v) s = .next { s with itc := 0, rdata := 0 }) ∧
    (s.edgeKind = .debounced → exec (.edge l v) s = .next { s with rdata := 0 }) ∧
    (∀ h : s.idx.toNat < 3, s.edgeKind = .stored → exec (.edge l v) s =
      .next { s with
        pos := s.pos.set s.idx.toNat
          (BitVec.ofInt 8 (Int.tdiv ((((min (max s.tcnt.toNat 1000) 2000 : Nat) : Int) - 1500) * 255) 1000)) h
        idx := s.idx + 1, itc := 0, tsu := if s.idx = 2 then 0 else s.tsu, tcnt := 0, rdata := 0 }) ∧
    (s.edgeKind = .held → exec (.edge l v) s =
      .next { s with idx := s.idx + 1, itc := 0, tsu := if s.idx = 2 then 0 else s.tsu, tcnt := 0, rdata := 0 }))

/-- R108 with its sample table: the product's range, its quotient rounded toward zero, and the samples' positions and read
data. -/
def Obligations.MappingRoundsTowardZero : Prop :=
  (∀ ec : Nat, 1000 ≤ ec → ec ≤ 2000 → ∀ prod p : Int, prod = ((ec : Int) - 1500) * 255 → p = mapClamped Config.hw ec →
    -127500 ≤ prod ∧ prod ≤ 127500 ∧ -2 ^ 17 ≤ prod ∧ prod < 2 ^ 17 ∧
    p.natAbs * 1000 ≤ prod.natAbs ∧ prod.natAbs < (p.natAbs + 1) * 1000 ∧ 0 ≤ p * prod) ∧
  [801, 1000, 1002, 1200, 1496, 1497, 1500, 1503, 1504, 1800, 2000, 2199].map (positionOf Config.hw) =
    [-127, -127, -126, -76, -1, 0, 0, 0, 1, 76, 127, 127] ∧
  [801, 1000, 1002, 1200, 1496, 1497, 1500, 1503, 1504, 1800, 2000, 2199].map
      (fun e => (BitVec.ofInt 8 (positionOf Config.hw e)).signExtend 16) =
    [0xFF81#16, 0xFF81#16, 0xFF82#16, 0xFFB4#16, 0xFFFF#16, 0x0000#16, 0x0000#16, 0x0000#16, 0x0001#16, 0x004C#16,
      0x007F#16, 0x007F#16]

/-- R109 for R7's values, whose window holds every e from 801 to 2199; and R8's closing sentence for every value: under the
constraints of R8, which R7's values meet, every in-window elapsed value maps into [-127, 127]. The one constraint beside R8's,
a positive SCALE_DEN, is the model's inference from R10's `tdiv` (notes/assumptions/10.md). -/
def Obligations.AdmissibleConfigurationMapsIntoRange : Prop :=
  Config.hw.Admissible ∧
  (∀ e : Nat, 800 < e → e < 2200 → -127 ≤ positionOf Config.hw e ∧ positionOf Config.hw e ≤ 127) ∧
  ∀ c : Config,
    1 ≤ c.n → c.n ≤ 2 ^ c.chW → c.n < 2 ^ c.idxW → (∀ w, c.n < 2 ^ w → c.idxW ≤ w) →
    0 < c.debounce → c.debounce ≤ c.winLo → c.winLo < c.clampLo → c.clampLo ≤ c.center → c.center ≤ c.clampHi →
    c.clampHi < c.winHi → c.winHi < 2 ^ c.tcntW →
    -127 ≤ mapClamped c c.clampLo → mapClamped c c.clampLo ≤ 127 →
    -127 ≤ mapClamped c c.clampHi → mapClamped c c.clampHi ≤ 127 →
    1 ≤ c.resyncTicks → c.resyncTicks ≤ 2 ^ c.itcW - 1 → c.tsuW ≤ c.rdataW → 0 < c.scaleDen →
    c.Admissible ∧ ∀ e : Nat, inWindow c e = true → -127 ≤ positionOf c e ∧ positionOf c e ≤ 127

/-- R115: the mapping is monotone over the window, and its flat parts are the two ends and the centre. -/
def Obligations.MappingIsMonotoneWithSaturatedEnds : Prop :=
  (∀ e₁ e₂ : Nat, 800 < e₁ → e₁ ≤ e₂ → e₂ < 2200 → positionOf Config.hw e₁ ≤ positionOf Config.hw e₂) ∧
  (∀ e : Nat, 800 < e → e ≤ 1001 → positionOf Config.hw e = -127) ∧
  (∀ e : Nat, 1999 ≤ e → e < 2200 → positionOf Config.hw e = 127) ∧
  (∀ e : Nat, 1497 ≤ e → e ≤ 1503 → positionOf Config.hw e = 0)

/-- R113: EDGE commands that differ only in line or level have the same effect in every state, so two command sequences that
differ only there cannot be told apart; and the slot is the number of edges accepted since IDX was last 0. -/
def Obligations.EdgeIgnoresLineAndLevel : Prop :=
  (∀ (l l' : BitVec 2) (v v' : Bool) (s : State), exec (.edge l v) s = exec (.edge l' v') s) ∧
  (∀ (is js : List Instr) (s : State),
    List.Forall₂ (fun i j => i = j ∨ (isEdge i = true ∧ isEdge j = true)) is js →
    execSeq is s = execSeq js s ∧ readDataOf is s = readDataOf js s) ∧
  (∀ (is : List Instr) (s t : State), Instr.rst ∉ is → EdgeKind.resync ∉ edgeKindsOf is s → execSeq is s = .next t →
    t.idx.toNat = s.idx.toNat + acceptedIn is s)

/-- R116: an edge soon after a resync or accepted edge is debounced while a slot is open, and does nothing new when the
earlier edge completed the cycle; so two EDGE commands at one instant leave the same state in either order. That an EDGE
directly after ANY EDGE, a debounced or completed-cycle one too, changes nothing is the model's inference from R100, against
R44's remark that EDGE is not idempotent (notes/assumptions/21.md). -/
def Obligations.EdgeSoonAfterConsumedEdgeIsDebounced : Prop :=
  (∀ (s t u : State) (l l' : BitVec 2) (v v' : Bool) (is : List Instr),
    (s.edgeKind = .resync ∨ s.edgeKind.accepted = true) → exec (.edge l v) s = .next t →
    Instr.rst ∉ is → is.count .cnt < 400 → is.count .tick < 50 → execSeq is t = .next u → t.idx.toNat < 3 →
    u.edgeKind = .debounced ∧ exec (.edge l' v') u = .next { u with rdata := 0 }) ∧
  (∀ (s t : State) (l l' : BitVec 2) (v v' : Bool), exec (.edge l v) s = .next t → exec (.edge l' v') t = .next t) ∧
  (∀ (s : State) (l l' : BitVec 2) (v v' : Bool),
    execSeq [.edge l v, .edge l' v'] s = execSeq [.edge l' v', .edge l v] s)

/-- R117: from IDX = 0, the third accepted edge with no resync edge and no RST before it moves IDX to 3 and clears TSU,
whatever else, debounced edges among it, falls between. -/
def Obligations.ThirdAcceptedEdgeCompletesCycle : Prop :=
  ∀ (is : List Instr) (l : BitVec 2) (v : Bool) (s t : State),
    s.idx = 0 → Instr.rst ∉ is → EdgeKind.resync ∉ edgeKindsOf is s → acceptedIn is s = 2 → execSeq is s = .next t →
    t.edgeKind.accepted = true →
    ∃ u : State, exec (.edge l v) t = .next u ∧ u.idx = 3 ∧ u.tsu = 0 ∧ acceptedIn (is ++ [.edge l v]) s = 3

/-- 70_reset_and_hazards.md R178: with fewer than three accepted edges since IDX was 0, IDX does not reach 3 and TSU only
grows with the ticks, up to its saturation. -/
def Obligations.IncompleteCycleNeverClearsStaleness : Prop :=
  ∀ (is : List Instr) (s t : State),
    s.idx = 0 → Instr.rst ∉ is → EdgeKind.resync ∉ edgeKindsOf is s → acceptedIn is s < 3 → execSeq is s = .next t →
    t.idx.toNat < 3 ∧ t.tsu.toNat = min (s.tsu.toNat + is.count .tick) 65535

/-! ## Accessors (42_accessors.md) -/

/-- R140: the words, and the channel map with its sign extension; nothing but RDATA is written. -/
def Obligations.RdposReadsChannelMap : Prop :=
  (∀ ch : BitVec 5, decode (0xA0#8 ||| ch.setWidth 8) = .ok (.rdpos ch)) ∧
  (∀ (ch : BitVec 5) (s : State) (h : ch.toNat < 3),
    exec (.rdpos ch) s = .next { s with rdata := BitVec.ofInt 16 (s.pos[ch.toNat]).toInt }) ∧
  (∀ (ch : BitVec 5) (s : State), 3 ≤ ch.toNat → exec (.rdpos ch) s = .next { s with rdata := 0 })

/-- R141: the word, and the staleness counter as read data; nothing but RDATA is written. -/
def Obligations.RdtsuReadsStalenessCounter : Prop :=
  decode 0xC0#8 = .ok .rdtsu ∧
  ∀ s : State, exec .rdtsu s = .next { s with rdata := s.tsu }

/-- R142: accessors put anywhere into a sequence change neither the read data of any other command nor the final state (but
for RDATA itself, which they drive). -/
def Obligations.AccessorsDoNotDisturbDecoding : Prop :=
  ∀ (before inserted after : List Instr) (s : State), (∀ i ∈ inserted, isAccessor i = true) →
    (∃ a b c : List ReadData,
      readDataOf (before ++ inserted ++ after) s = a ++ b ++ c ∧ a.length = before.length ∧
      b.length = inserted.length ∧ readDataOf (before ++ after) s = a ++ c) ∧
    ∃ t u : State, execSeq (before ++ inserted ++ after) s = .next t ∧ execSeq (before ++ after) s = .next u ∧
      { t with rdata := 0 } = { u with rdata := 0 }

/-- 20_memory.md R44 but for its words on EDGE: an accessor repeated gives the same value and changes no other state, NOP
changes nothing, RST done twice is RST done once, CNT and TICK done twice are not. Beside it, from R100: an EDGE delivered again
400 counts later is another measurement that takes another slot. That is no reading of R44's "not idempotent", which R100
contradicts (notes/assumptions/21.md, EdgeSoonAfterConsumedEdgeIsDebounced). -/
def Obligations.ReadsRepeatAndResetIsIdempotent : Prop :=
  (∀ (i : Instr) (s : State), isAccessor i = true →
    ∃ t : State, exec i s = .next t ∧ exec i t = .next t ∧ { t with rdata := s.rdata } = s) ∧
  (∀ s : State, ∃ t : State, exec .nop s = .next t ∧ { t with rdata := s.rdata } = s) ∧
  (∀ s : State, ∃ t : State, exec .rst s = .next t ∧ exec .rst t = .next t) ∧
  (∃ s t u : State, exec .cnt s = .next t ∧ exec .cnt t = .next u ∧ t ≠ u) ∧
  (∃ s t u : State, exec .tick s = .next t ∧ exec .tick t = .next u ∧ t ≠ u) ∧
  (∀ (s : State) (l l' : BitVec 2) (v v' : Bool), s.idx = 0 → s.itc.toNat < 50 → 400 ≤ s.tcnt.toNat →
    ∃ t u : State, execSeq (.edge l v :: List.replicate 400 .cnt) s = .next t ∧ t.idx = 1 ∧
      exec (.edge l' v') t = .next u ∧ u.idx = 2)

/-! ## Encoding (30_encoding.md) -/

/-- R61's table: the legal words of each row, 43 in all. -/
def Obligations.OpcodeMapHasExactlyFortyThreeWords : Prop :=
  (∀ w : CmdWord,
    (decode w = .ok .nop ↔ w = 0x00#8) ∧ (decode w = .ok .rst ↔ w = 0x20#8) ∧ (decode w = .ok .cnt ↔ w = 0x40#8) ∧
    (decode w = .ok .tick ↔ w = 0x60#8) ∧ (decode w = .ok .rdtsu ↔ w = 0xC0#8) ∧
    (∀ (l : BitVec 2) (v : Bool), decode w = .ok (.edge l v) ↔ l ≠ 3#2 ∧ w.toNat = 128 + 4 * v.toNat + l.toNat) ∧
    (∀ ch : BitVec 5, decode w = .ok (.rdpos ch) ↔ w.toNat = 160 + ch.toNat)) ∧
  ((List.range 256).filter (fun n => (decode (BitVec.ofNat 8 n)).toOption.isSome)).length = 43

/-- Decoding undoes encoding for every well-formed command, and every word that decodes is the encoding of the one
well-formed command it decodes to: no bit of a legal word is dropped. -/
def Obligations.DecodeInvertsEncode : Prop :=
  (∀ i : Instr, i.wellFormed = true → decode (encode i) = .ok i) ∧
  (∀ (w : CmdWord) (i : Instr), decode w = .ok i → i.wellFormed = true ∧ encode i = w)

/-- Words of 95_test_vectors.md section 2.5 decode to the commands it lists. -/
def Obligations.ListedWordsDecodeAsListed : Prop :=
  decode 0x80#8 = .ok (.edge 0 false) ∧ decode 0x82#8 = .ok (.edge 2 false) ∧ decode 0x84#8 = .ok (.edge 0 true) ∧
  decode 0x86#8 = .ok (.edge 2 true) ∧ decode 0xA0#8 = .ok (.rdpos 0) ∧ decode 0xBF#8 = .ok (.rdpos 31) ∧
  decode 0xC0#8 = .ok .rdtsu ∧ decode 0x20#8 = .ok .rst

/-- The words R65 lists as reserved are refused when a step takes one, whoever presents it, in every state (K10 and
notes/assumptions/9.md: the hardware runs them as NOP, and the spec directs a model to refuse). -/
def Obligations.ReservedWordsAreRefused : Prop :=
  ∀ (s : State) (a : Agent) (w : CmdWord) (rest : List Input), s.inputs = .command a w :: rest →
    ((0x01 ≤ w.toNat ∧ w.toNat ≤ 0x1F) ∨ (0x21 ≤ w.toNat ∧ w.toNat ≤ 0x3F) ∨ (0x41 ≤ w.toNat ∧ w.toNat ≤ 0x5F) ∨
      (0x61 ≤ w.toNat ∧ w.toNat ≤ 0x7F) ∨ (0xC1 ≤ w.toNat ∧ w.toNat ≤ 0xDF) → step s = .refused (.reservedCommand .nonzeroArgument w)) ∧
    (w = 0x83#8 ∨ w = 0x87#8 → step s = .refused (.reservedCommand .edgeLineThree w)) ∧
    (0x88 ≤ w.toNat ∧ w.toNat ≤ 0x9F → step s = .refused (.reservedCommand .edgeHighBits w)) ∧
    (0xE0 ≤ w.toNat → step s = .refused (.reservedCommand .reservedOp w))

/-- R70's table for the seven commands: what each drives on RDATA. -/
def Obligations.EveryCommandDrivesItsReadData : Prop :=
  ∀ (i : Instr) (s : State), ∃ t : State, exec i s = .next t ∧
    t.rdata = (match i with
      | .rdpos ch => if h : ch.toNat < 3 then (s.pos[ch.toNat]).signExtend 16 else 0
      | .rdtsu => s.tsu
      | .nop => 0
      | .rst => 0
      | .cnt => 0
      | .tick => 0
      | .edge _ _ => 0)

/-- R71: every command's spelling assembles to its one word, and three spellings outside the table are rejected. That
`RDPOS 0x1F ; last channel` assembles, with its blank before the comment and its upper-case digit, is the model's choice
(notes/assumptions/16.md), as is the one blank after each comma and mnemonic in `commandText`. -/
def Obligations.CommandTextAssemblesToItsWord : Prop :=
  (∀ i : Instr, i.wellFormed = true → assembleLine (commandText i) = some [encode i]) ∧
  assembleLine "RDPOS 0x1F ; last channel".toList = some [0xBF#8] ∧
  assembleLine "EDGE 3, r".toList = none ∧ assembleLine "RDPOS 32".toList = none ∧ assembleLine "NOP 1".toList = none

/-- R72: WAIT and TICKS expand to copies of one command; ELAPSE expands to any interleaving, the assembler's among them, and
all of its expansions leave the same state. -/
def Obligations.ElapseExpansionsAgree : Prop :=
  (∀ (k : Nat) (is : List Instr), (AsmLine.wait k).Expands is ↔ is = List.replicate k .cnt) ∧
  (∀ (k : Nat) (is : List Instr), (AsmLine.ticks k).Expands is ↔ is = List.replicate k .tick) ∧
  (∀ a : AsmLine, a.Expands a.instrs) ∧
  (∀ (c t : Nat) (is js : List Instr) (s : State), (AsmLine.elapse c t).Expands is → (AsmLine.elapse c t).Expands js →
    execSeq is s = execSeq js s)

/-! ## The step, the ports and the order (00_scope.md, 20_memory.md, 60_exceptions.md) -/

/-- A step that takes a legal command word runs the decoded command, whoever presented it, on the state without that
arrival. -/
def Obligations.StepRunsDecodedCommand : Prop :=
  ∀ (s : State) (a : Agent) (w : CmdWord) (rest : List Input) (i : Instr),
    s.inputs = .command a w :: rest → decode w = .ok i → step s = exec i { s with inputs := rest }

/-- With nothing waiting the block stays in its state (K14; 70_reset_and_hazards.md section 1: "after reset it waits for
commands"; the model's idle step is notes/assumptions/3.md). -/
def Obligations.IdleBlockKeepsItsState : Prop :=
  ∀ s : State, s.inputs = [] → step s = .next s

/-- R154 and R32: a level that differs from the reference bit sets the bit and issues one EDGE of that line and level; a
level equal to it issues none; an extra EDGE leaves the front end as it is. That the sample and its EDGE are one step is the
model's choice (notes/assumptions/6.md), and what an extra EDGE leaves is its inference (notes/assumptions/7.md). -/
def Obligations.FrontEndIssuesOneEdgePerTransition : Prop :=
  ∀ (s : State) (l : Fin 3) (v : Bool) (rest : List Input),
    (s.inputs = .lineLevel l v :: rest → s.lvl[l] ≠ v →
      step s = exec (.edge (BitVec.ofNat 2 l) v)
        { s with inLine := s.inLine.set l v, lvl := s.lvl.set l v, inputs := rest }) ∧
    (s.inputs = .lineLevel l v :: rest → s.lvl[l] = v →
      step s = .next { s with inLine := s.inLine.set l v, inputs := rest }) ∧
    (s.inputs = .extraEdge l v :: rest → step s = exec (.edge (BitVec.ofNat 2 l) v) { s with inputs := rest })

/-- R31: after power-on and after RST, from any state, every piece of state has its reset value: the registers 0, and each
reference bit the level its line has then. -/
def Obligations.ResetGivesEveryRegisterItsValue : Prop :=
  (State.reset.pos = #v[0, 0, 0] ∧ State.reset.idx = 0 ∧ State.reset.itc = 0 ∧ State.reset.tsu = 0 ∧
    State.reset.tcnt = 0 ∧ State.reset.lvl = State.reset.inLine) ∧
  (∀ s : State, ∃ t : State, exec .rst s = .next t ∧
    t.pos = #v[0, 0, 0] ∧ t.idx = 0 ∧ t.itc = 0 ∧ t.tsu = 0 ∧ t.tcnt = 0 ∧ t.lvl = s.inLine) ∧
  (∀ (s : State) (levels : LineLevels) (rest : List Input), s.inputs = .powerOnReset levels :: rest →
    ∃ t : State, step s = .next t ∧
      t.pos = #v[0, 0, 0] ∧ t.idx = 0 ∧ t.itc = 0 ∧ t.tsu = 0 ∧ t.tcnt = 0 ∧ t.lvl = levels)

/-- R170, as the model takes the `rst` port: from any state the port has the effect of one RST command with the lines at
their present levels, and leaves the reset state but for those levels and for what waits (notes/assumptions/8.md; RDATA's 0 is
notes/assumptions/4.md). -/
def Obligations.PowerOnResetIsOneRst : Prop :=
  ∀ (s : State) (levels : LineLevels) (rest : List Input), s.inputs = .powerOnReset levels :: rest →
    step s = exec .rst { s with inLine := levels, inputs := rest } ∧
    step s = .next { State.reset with lvl := levels, inLine := levels, inputs := rest }

/-- R150: there is no fault to raise, and every command completes in every state. -/
def Obligations.EveryCommandCompletes : Prop :=
  (Fault → False) ∧ ∀ (i : Instr) (s : State), ∃ t : State, exec i s = .next t

/-- The machine's steps over a stream of legal command words are the commands one after another: nothing is reordered,
dropped or done twice, and no command touches what waits behind it. -/
def Obligations.RunsFollowTheSerialOrder : Prop :=
  ∀ (cs : List (Agent × Instr)) (s : State) (rest : List Input), (∀ c ∈ cs, c.2.wellFormed = true) →
    Host.Core.run Sys2Proof.core cs.length
      { s with inputs := cs.map (fun c => Input.command c.1 (encode c.2)) ++ rest } =
    execSeq (cs.map Prod.snd) { s with inputs := rest }

/-- R48 with R84: of the timebase's counts and the tick source's ticks, every total order that keeps each agent's own order
leads to the same state. -/
def Obligations.TimebaseAndTickOrderIsImmaterial : Prop :=
  ∀ (issued : Agent → List Input) (p q : List Input) (s : State),
    (∀ i ∈ issued .timebase, i = .cntStrobe) → (∀ i ∈ issued .tickSource, i = .tickStrobe) →
    issued .edgeFrontEnd = [] → issued .host = [] → issued .resetPort = [] →
    Serialises issued p → Serialises issued q →
    Host.Core.run Sys2Proof.core p.length { s with inputs := p } =
      Host.Core.run Sys2Proof.core q.length { s with inputs := q }

/-- R155: what the free order among simultaneous commands can and cannot change, for TICK with EDGE, CNT with EDGE, and RST
with any command. -/
def Obligations.SimultaneousOrderConsequences : Prop :=
  (∀ s : State, execSeq [.cnt, .tick] s = execSeq [.tick, .cnt] s) ∧
  (∀ (s : State) (l : BitVec 2) (v : Bool), s.itc = 49 →
    execSeq [.tick, .edge l v] s =
      .next { s with idx := 0, itc := 0, tsu := BitVec.ofNat 16 (min (s.tsu.toNat + 1) 65535), tcnt := 0, rdata := 0 }) ∧
  (∀ (s : State) (l : BitVec 2) (v : Bool), s.edgeKind = .completedCycle ∨ s.edgeKind.accepted = true →
    ∃ u : State, execSeq [.edge l v, .tick] s = .next u ∧ u.itc = 1 ∧ (s.idx = 2 → u.tsu = 1)) ∧
  (∀ (s : State) (l : BitVec 2) (v : Bool), s.itc.toNat < 49 →
    s.edgeKind = .completedCycle ∨ s.edgeKind.accepted = true →
    ∃ t : State, execSeq [.tick, .edge l v] s = .next t ∧ t.itc = 0 ∧ (s.idx = 2 → t.tsu = 0)) ∧
  (∃ s t u : State, execSeq [.cnt, .edge 0 false] s = .next t ∧ execSeq [.edge 0 false, .cnt] s = .next u ∧
    t.pos ≠ u.pos) ∧
  (∀ (i : Instr) (s : State), ∃ t : State, exec .rst s = .next t ∧ execSeq [i, .rst] s = .next t ∧
    execSeq [.rst, i] s = exec i t)

/-! ## Who writes what, and what can be seen (10_state.md) -/

/-- R33's third invariant: an entry changes only by an edge accepted in its slot with an in-window value, or by RST. -/
def Obligations.PositionChangesOnlyByStoredEdgeOrRst : Prop :=
  ∀ (i : Instr) (s t : State) (k : Fin 3), exec i s = .next t → t.pos[k] ≠ s.pos[k] →
    i = .rst ∨ (isEdge i = true ∧ s.edgeKind = .stored ∧ s.idx.toNat = k.val)

/-- R25 and R111: TSU grows only by TICK, and is cleared only by RST and by the accepted edge that moves IDX to 3. -/
def Obligations.StalenessWritersAreTickRstAndCompletion : Prop :=
  ∀ (i : Instr) (s t : State), exec i s = .next t → t.tsu ≠ s.tsu →
    (i = .tick ∧ t.tsu.toNat = s.tsu.toNat + 1) ∨ (t.tsu = 0 ∧
      (i = .rst ∨ (isEdge i = true ∧ s.edgeKind.accepted = true ∧ s.idx = 2 ∧ t.idx = 3)))

/-- Which commands write what: R29's write columns for IDX, ITC and TCNT, and the widths' bound on IDX (R23). For LVL, R32 and
R81: among the commands only RST writes it, and the front end, which writes it too when a line moves (R154), is no command. No
command writes the input port (R160), nor what waits, which is the model's own field (notes/assumptions/1.md). -/
def Obligations.OtherRegistersHaveOnlyTheirWriters : Prop :=
  ∀ (i : Instr) (s t : State), exec i s = .next t →
    (t.idx ≠ s.idx → i = .rst ∨ (isEdge i = true ∧ (s.edgeKind = .resync ∧ t.idx = 0 ∨
      s.edgeKind.accepted = true ∧ t.idx.toNat = s.idx.toNat + 1))) ∧
    (t.itc ≠ s.itc → i = .tick ∧ t.itc.toNat = s.itc.toNat + 1 ∨ t.itc = 0 ∧ (i = .rst ∨
      (isEdge i = true ∧ s.edgeKind ≠ .debounced))) ∧
    (t.tcnt ≠ s.tcnt → i = .cnt ∧ t.tcnt = s.tcnt + 1 ∨ t.tcnt = 0 ∧ (i = .rst ∨
      (isEdge i = true ∧ (s.edgeKind = .resync ∨ s.edgeKind.accepted = true)))) ∧
    (t.lvl ≠ s.lvl → i = .rst ∧ t.lvl = s.inLine) ∧
    t.idx.toNat ≤ 3 ∧ t.inLine = s.inLine ∧ t.inputs = s.inputs

/-- R30: IDX, ITC, TCNT and the front end are hidden: over any commands but EDGE, two states that agree on POS and TSU give
the same read data. -/
def Obligations.ReadDataHidesSequencerAndTimers : Prop :=
  ∀ (is : List Instr) (s s' : State), (∀ i ∈ is, isEdge i = false) → s.pos = s'.pos → s.tsu = s'.tsu →
    readDataOf is s = readDataOf is s'

/-! ## Invariants (10_state.md section 8) -/

/-- The reset state meets the three invariants below. -/
def Obligations.ResetMeetsTheInvariants : Prop :=
  State.reset.PositionsInRange ∧ State.reset.GapWithinStaleness ∧ State.reset.ReferencesTrackLines

/-- R33: every stored position stays in [-127, 127], so -128 is never stored, and IDX stays in 0..3, over every step from
every state that meets them. -/
def Obligations.StepKeepsPositionsInRange : Prop :=
  ∀ s t : State, s.PositionsInRange → s.IndexLegal → step s = .next t →
    t.PositionsInRange ∧ t.IndexLegal ∧ ∀ k : Fin 3, t.pos[k] ≠ 0x80#8

/-- Every step keeps the gap counter at most the staleness counter: whatever clears TSU clears ITC as well, and a tick
advances both. (So in no state reached from reset does ITC stand at 0xFFFF while TSU is lower; see notes/assumptions/22.md on
R83's corner case.) -/
def Obligations.StepKeepsGapWithinStaleness : Prop :=
  ∀ s t : State, s.GapWithinStaleness → step s = .next t → t.GapWithinStaleness

/-- Every step leaves each reference bit at its line's present level where it stood there before: no transition is left
without its EDGE (R32, R154). That both are one step is the model's choice (notes/assumptions/6.md), and that an extra EDGE
changes neither the bit nor the line is the model's inference (notes/assumptions/7.md). -/
def Obligations.StepKeepsReferencesOnLines : Prop :=
  ∀ s t : State, s.ReferencesTrackLines → step s = .next t → t.ReferencesTrackLines

/-! ## Sequences (40_init_and_timebase.md, 70_reset_and_hazards.md) -/

/-- R84: every interleaving of c CNT and t TICK leaves the same state: the timer advanced by c modulo 2^16, both tick
counters by t with saturation. -/
def Obligations.CntAndTickCommute : Prop :=
  ∀ (c t : Nat) (is : List Instr) (s : State), is.count .cnt = c → is.count .tick = t → is.length = c + t →
    execSeq is s = .next { s with
      tcnt := BitVec.ofNat 16 ((s.tcnt.toNat + c) % 65536)
      itc := BitVec.ofNat 16 (min (s.itc.toNat + t) 65535)
      tsu := BitVec.ofNat 16 (min (s.tsu.toNat + t) 65535)
      rdata := if is = [] then s.rdata else 0 }

/-- R85, for any commands with no EDGE and no RST among them: POS and IDX are unchanged, and TSU grows with the ticks until it
saturates. -/
def Obligations.TicksAloneNeverChangePositions : Prop :=
  ∀ (is : List Instr) (s : State), (∀ i ∈ is, isQuiet i = true) →
    ∃ t : State, execSeq is s = .next t ∧ t.pos = s.pos ∧ t.idx = s.idx ∧ t.lvl = s.lvl ∧
      t.tsu.toNat = min (s.tsu.toNat + is.count .tick) 65535

/-- R173: edges that come before the reference is 400 counts old move nothing, however many, and the first edge at 400
counts or more is measured from the reference: it is accepted with the whole interval as its elapsed value. The ticks of the
interval stay below the resynchronisation threshold, or the edge would be a resync edge (R101). -/
def Obligations.DebouncedBurstIsMeasuredFromReference : Prop :=
  ∀ (burst wait : List Instr) (s : State), s.idx.toNat < 3 → Instr.rst ∉ burst → (∀ i ∈ wait, isQuiet i = true) →
    s.itc.toNat + burst.count .tick + wait.count .tick < 50 → s.tcnt.toNat + burst.count .cnt < 400 →
    400 ≤ s.tcnt.toNat + burst.count .cnt + wait.count .cnt →
    s.tcnt.toNat + burst.count .cnt + wait.count .cnt < 65536 →
    (∃ u : State, execSeq burst s = .next u ∧ u.pos = s.pos ∧ u.idx = s.idx ∧
      u.tcnt.toNat = s.tcnt.toNat + burst.count .cnt ∧ u.edgeKind = .debounced) ∧
    ∃ t : State, execSeq (burst ++ wait) s = .next t ∧ t.pos = s.pos ∧ t.idx = s.idx ∧
      t.tcnt.toNat = s.tcnt.toNat + burst.count .cnt + wait.count .cnt ∧ t.edgeKind.accepted = true ∧
      (t.edgeKind = .stored ↔ 800 < t.tcnt.toNat ∧ t.tcnt.toNat < 2200)

/-- R102, R174 and R179: while IDX = 3, as long as no edge is a resync edge and there is no RST, every edge is a
completed-cycle edge, no position is written and TSU only grows with the ticks; and without ticks, from a gap counter below
its threshold, no edge is a resync edge. -/
def Obligations.CompleteModeHoldsUntilResync : Prop :=
  (∀ (is : List Instr) (s t : State), s.idx = 3 → Instr.rst ∉ is → EdgeKind.resync ∉ edgeKindsOf is s →
    execSeq is s = .next t →
    t.idx = 3 ∧ t.mode = .complete ∧ t.pos = s.pos ∧ t.tsu.toNat = min (s.tsu.toNat + is.count .tick) 65535 ∧
    t.tcnt.toNat = (s.tcnt.toNat + is.count .cnt) % 65536 ∧ ∀ k ∈ edgeKindsOf is s, k = .completedCycle) ∧
  (∀ (is : List Instr) (s : State), s.itc.toNat < 50 → Instr.tick ∉ is → EdgeKind.resync ∉ edgeKindsOf is s)

/-- R175 with R181: where the ticks keep their rate of one in 100 counts, an interval of 5000 counts or more since the
reference was cleared, so any that could wrap the timer, ends in a resync edge and never in an accepted one. -/
def Obligations.LongIntervalResynchronisesAtTickRate : Prop :=
  ∀ (is : List Instr) (s t : State), s.idx.toNat < 3 → Instr.rst ∉ is → EdgeKind.resync ∉ edgeKindsOf is s →
    acceptedIn is s = 0 → is.count .cnt / 100 ≤ is.count .tick → 5000 ≤ is.count .cnt → execSeq is s = .next t →
    t.edgeKind = .resync

/-- R171: from any state, whatever its phase, a gap of 50 ticks with no processed edge and then an edge restores alignment,
with no position written and TSU grown by the gap. -/
def Obligations.GapThenEdgeRestoresAlignment : Prop :=
  ∀ (gap : List Instr) (l : BitVec 2) (v : Bool) (s : State), (∀ i ∈ gap, isQuiet i = true) →
    50 ≤ s.itc.toNat + gap.count .tick →
    ∃ t : State, execSeq (gap ++ [.edge l v]) s = .next t ∧ t.mode = .decoding 0 ∧ t.idx = 0 ∧ t.itc = 0 ∧ t.tcnt = 0 ∧
      t.pos = s.pos ∧ t.tsu.toNat = min (s.tsu.toNat + gap.count .tick) 65535

/-- R171, R108, R110 and R111 together: from any state, a resync gap and then three in-window pulses, each of fewer than 50
ticks, leave the three slots holding the three pulses' positions in order, the cycle complete and TSU cleared. -/
def Obligations.CleanCycleDecodesThreePulses : Prop :=
  ∀ (gap g₁ g₂ g₃ : List Instr) (l₀ l₁ l₂ l₃ : BitVec 2) (v₀ v₁ v₂ v₃ : Bool) (s : State),
    (∀ i ∈ gap ++ g₁ ++ g₂ ++ g₃, isQuiet i = true) → 50 ≤ s.itc.toNat + gap.count .tick →
    g₁.count .tick < 50 → g₂.count .tick < 50 → g₃.count .tick < 50 →
    (800 < g₁.count .cnt ∧ g₁.count .cnt < 2200) → (800 < g₂.count .cnt ∧ g₂.count .cnt < 2200) →
    (800 < g₃.count .cnt ∧ g₃.count .cnt < 2200) →
    ∃ t : State,
      execSeq (gap ++ [.edge l₀ v₀] ++ g₁ ++ [.edge l₁ v₁] ++ g₂ ++ [.edge l₂ v₂] ++ g₃ ++ [.edge l₃ v₃]) s = .next t ∧
      (t.pos[0]).toInt = positionOf Config.hw (g₁.count .cnt) ∧
      (t.pos[1]).toInt = positionOf Config.hw (g₂.count .cnt) ∧
      (t.pos[2]).toInt = positionOf Config.hw (g₃.count .cnt) ∧
      t.idx = 3 ∧ t.tsu = 0 ∧ t.itc = 0 ∧ t.tcnt = 0
end

