-- ==== Sys2Proof/Laws/Arith.lean ====
section
/-! SUPPORT. What the arithmetic primitives of Machine/Arith.lean say: how `tdiv` rounds, and that `tdiv` and `clamp` are
monotone. -/

namespace Sys2Proof.Machine

/-- R10's `tdiv` is the library's division truncated toward zero. -/
theorem tdiv_eq_int_tdiv (a : Int) (b : Nat) : tdiv a b = Int.tdiv a b := by
  cases a with
  | ofNat n =>
    rcases Nat.eq_zero_or_pos n with rfl | h
    · simp [tdiv]
    · simp [tdiv, Int.sign_eq_one_of_pos (Int.natCast_pos.mpr h)]
  | negSucc n =>
    show (-1 : Int) * (((n + 1) / b : Nat) : Int) = -(((n + 1) / b : Nat) : Int)
    omega

/-- A larger dividend never has a smaller quotient. -/
theorem tdiv_mono {a a' : Int} (b : Nat) (h : a ≤ a') : tdiv a b ≤ tdiv a' b := by
  rw [tdiv_eq_int_tdiv, tdiv_eq_int_tdiv]
  rcases Nat.eq_zero_or_pos b with rfl | hb
  · simp
  · exact Int.tdiv_le_tdiv (by omega) h

/-- A clamped value lies between the bounds. -/
theorem clamp_bounds (v : Nat) {lo hi : Nat} (h : lo ≤ hi) : lo ≤ clamp v lo hi ∧ clamp v lo hi ≤ hi := by
  unfold clamp; omega

/-- A larger value never clamps to a smaller one. -/
theorem clamp_mono {v v' : Nat} (lo hi : Nat) (h : v ≤ v') : clamp v lo hi ≤ clamp v' lo hi := by
  unfold clamp; omega

end Sys2Proof.Machine
end

