-- ==== Sys2Proof/Laws/State.lean ====
section
/-! SUPPORT. One lemma per field per update of Machine/Ops.lean, each true by rfl, so that no later proof unfolds a record
update. -/

namespace Sys2Proof.Machine

@[simp] theorem State.drive_pos (v : ReadData) (s : State) : (s.drive v).pos = s.pos := rfl
@[simp] theorem State.drive_idx (v : ReadData) (s : State) : (s.drive v).idx = s.idx := rfl
@[simp] theorem State.drive_itc (v : ReadData) (s : State) : (s.drive v).itc = s.itc := rfl
@[simp] theorem State.drive_tsu (v : ReadData) (s : State) : (s.drive v).tsu = s.tsu := rfl
@[simp] theorem State.drive_tcnt (v : ReadData) (s : State) : (s.drive v).tcnt = s.tcnt := rfl
@[simp] theorem State.drive_lvl (v : ReadData) (s : State) : (s.drive v).lvl = s.lvl := rfl
@[simp] theorem State.drive_inLine (v : ReadData) (s : State) : (s.drive v).inLine = s.inLine := rfl
@[simp] theorem State.drive_rdata (v : ReadData) (s : State) : (s.drive v).rdata = v := rfl
@[simp] theorem State.drive_inputs (v : ReadData) (s : State) : (s.drive v).inputs = s.inputs := rfl

@[simp] theorem State.writePos_pos (i : Nat) (p : Int) (s : State) : (s.writePos i p).pos = s.pos.setIfInBounds i (BitVec.ofInt 8 p) := rfl
@[simp] theorem State.writePos_idx (i : Nat) (p : Int) (s : State) : (s.writePos i p).idx = s.idx := rfl
@[simp] theorem State.writePos_itc (i : Nat) (p : Int) (s : State) : (s.writePos i p).itc = s.itc := rfl
@[simp] theorem State.writePos_tsu (i : Nat) (p : Int) (s : State) : (s.writePos i p).tsu = s.tsu := rfl
@[simp] theorem State.writePos_tcnt (i : Nat) (p : Int) (s : State) : (s.writePos i p).tcnt = s.tcnt := rfl
@[simp] theorem State.writePos_lvl (i : Nat) (p : Int) (s : State) : (s.writePos i p).lvl = s.lvl := rfl
@[simp] theorem State.writePos_inLine (i : Nat) (p : Int) (s : State) : (s.writePos i p).inLine = s.inLine := rfl
@[simp] theorem State.writePos_rdata (i : Nat) (p : Int) (s : State) : (s.writePos i p).rdata = s.rdata := rfl
@[simp] theorem State.writePos_inputs (i : Nat) (p : Int) (s : State) : (s.writePos i p).inputs = s.inputs := rfl

@[simp] theorem State.clearPositions_pos (s : State) : (s.clearPositions).pos = Vector.replicate 3 0 := rfl
@[simp] theorem State.clearPositions_idx (s : State) : (s.clearPositions).idx = s.idx := rfl
@[simp] theorem State.clearPositions_itc (s : State) : (s.clearPositions).itc = s.itc := rfl
@[simp] theorem State.clearPositions_tsu (s : State) : (s.clearPositions).tsu = s.tsu := rfl
@[simp] theorem State.clearPositions_tcnt (s : State) : (s.clearPositions).tcnt = s.tcnt := rfl
@[simp] theorem State.clearPositions_lvl (s : State) : (s.clearPositions).lvl = s.lvl := rfl
@[simp] theorem State.clearPositions_inLine (s : State) : (s.clearPositions).inLine = s.inLine := rfl
@[simp] theorem State.clearPositions_rdata (s : State) : (s.clearPositions).rdata = s.rdata := rfl
@[simp] theorem State.clearPositions_inputs (s : State) : (s.clearPositions).inputs = s.inputs := rfl

@[simp] theorem State.clearIndex_pos (s : State) : (s.clearIndex).pos = s.pos := rfl
@[simp] theorem State.clearIndex_idx (s : State) : (s.clearIndex).idx = 0 := rfl
@[simp] theorem State.clearIndex_itc (s : State) : (s.clearIndex).itc = s.itc := rfl
@[simp] theorem State.clearIndex_tsu (s : State) : (s.clearIndex).tsu = s.tsu := rfl
@[simp] theorem State.clearIndex_tcnt (s : State) : (s.clearIndex).tcnt = s.tcnt := rfl
@[simp] theorem State.clearIndex_lvl (s : State) : (s.clearIndex).lvl = s.lvl := rfl
@[simp] theorem State.clearIndex_inLine (s : State) : (s.clearIndex).inLine = s.inLine := rfl
@[simp] theorem State.clearIndex_rdata (s : State) : (s.clearIndex).rdata = s.rdata := rfl
@[simp] theorem State.clearIndex_inputs (s : State) : (s.clearIndex).inputs = s.inputs := rfl

@[simp] theorem State.incrementIndex_pos (s : State) : (s.incrementIndex).pos = s.pos := rfl
@[simp] theorem State.incrementIndex_idx (s : State) : (s.incrementIndex).idx = s.idx + 1 := rfl
@[simp] theorem State.incrementIndex_itc (s : State) : (s.incrementIndex).itc = s.itc := rfl
@[simp] theorem State.incrementIndex_tsu (s : State) : (s.incrementIndex).tsu = s.tsu := rfl
@[simp] theorem State.incrementIndex_tcnt (s : State) : (s.incrementIndex).tcnt = s.tcnt := rfl
@[simp] theorem State.incrementIndex_lvl (s : State) : (s.incrementIndex).lvl = s.lvl := rfl
@[simp] theorem State.incrementIndex_inLine (s : State) : (s.incrementIndex).inLine = s.inLine := rfl
@[simp] theorem State.incrementIndex_rdata (s : State) : (s.incrementIndex).rdata = s.rdata := rfl
@[simp] theorem State.incrementIndex_inputs (s : State) : (s.incrementIndex).inputs = s.inputs := rfl

@[simp] theorem State.clearGap_pos (s : State) : (s.clearGap).pos = s.pos := rfl
@[simp] theorem State.clearGap_idx (s : State) : (s.clearGap).idx = s.idx := rfl
@[simp] theorem State.clearGap_itc (s : State) : (s.clearGap).itc = 0 := rfl
@[simp] theorem State.clearGap_tsu (s : State) : (s.clearGap).tsu = s.tsu := rfl
@[simp] theorem State.clearGap_tcnt (s : State) : (s.clearGap).tcnt = s.tcnt := rfl
@[simp] theorem State.clearGap_lvl (s : State) : (s.clearGap).lvl = s.lvl := rfl
@[simp] theorem State.clearGap_inLine (s : State) : (s.clearGap).inLine = s.inLine := rfl
@[simp] theorem State.clearGap_rdata (s : State) : (s.clearGap).rdata = s.rdata := rfl
@[simp] theorem State.clearGap_inputs (s : State) : (s.clearGap).inputs = s.inputs := rfl

@[simp] theorem State.tickGap_pos (s : State) : (s.tickGap).pos = s.pos := rfl
@[simp] theorem State.tickGap_idx (s : State) : (s.tickGap).idx = s.idx := rfl
@[simp] theorem State.tickGap_itc (s : State) : (s.tickGap).itc = BitVec.ofNat 16 (sat Config.hw.itcW (s.itc.toNat + 1)) := rfl
@[simp] theorem State.tickGap_tsu (s : State) : (s.tickGap).tsu = s.tsu := rfl
@[simp] theorem State.tickGap_tcnt (s : State) : (s.tickGap).tcnt = s.tcnt := rfl
@[simp] theorem State.tickGap_lvl (s : State) : (s.tickGap).lvl = s.lvl := rfl
@[simp] theorem State.tickGap_inLine (s : State) : (s.tickGap).inLine = s.inLine := rfl
@[simp] theorem State.tickGap_rdata (s : State) : (s.tickGap).rdata = s.rdata := rfl
@[simp] theorem State.tickGap_inputs (s : State) : (s.tickGap).inputs = s.inputs := rfl

@[simp] theorem State.clearStaleness_pos (s : State) : (s.clearStaleness).pos = s.pos := rfl
@[simp] theorem State.clearStaleness_idx (s : State) : (s.clearStaleness).idx = s.idx := rfl
@[simp] theorem State.clearStaleness_itc (s : State) : (s.clearStaleness).itc = s.itc := rfl
@[simp] theorem State.clearStaleness_tsu (s : State) : (s.clearStaleness).tsu = 0 := rfl
@[simp] theorem State.clearStaleness_tcnt (s : State) : (s.clearStaleness).tcnt = s.tcnt := rfl
@[simp] theorem State.clearStaleness_lvl (s : State) : (s.clearStaleness).lvl = s.lvl := rfl
@[simp] theorem State.clearStaleness_inLine (s : State) : (s.clearStaleness).inLine = s.inLine := rfl
@[simp] theorem State.clearStaleness_rdata (s : State) : (s.clearStaleness).rdata = s.rdata := rfl
@[simp] theorem State.clearStaleness_inputs (s : State) : (s.clearStaleness).inputs = s.inputs := rfl

@[simp] theorem State.tickStaleness_pos (s : State) : (s.tickStaleness).pos = s.pos := rfl
@[simp] theorem State.tickStaleness_idx (s : State) : (s.tickStaleness).idx = s.idx := rfl
@[simp] theorem State.tickStaleness_itc (s : State) : (s.tickStaleness).itc = s.itc := rfl
@[simp] theorem State.tickStaleness_tsu (s : State) : (s.tickStaleness).tsu = BitVec.ofNat 16 (sat Config.hw.tsuW (s.tsu.toNat + 1)) := rfl
@[simp] theorem State.tickStaleness_tcnt (s : State) : (s.tickStaleness).tcnt = s.tcnt := rfl
@[simp] theorem State.tickStaleness_lvl (s : State) : (s.tickStaleness).lvl = s.lvl := rfl
@[simp] theorem State.tickStaleness_inLine (s : State) : (s.tickStaleness).inLine = s.inLine := rfl
@[simp] theorem State.tickStaleness_rdata (s : State) : (s.tickStaleness).rdata = s.rdata := rfl
@[simp] theorem State.tickStaleness_inputs (s : State) : (s.tickStaleness).inputs = s.inputs := rfl

@[simp] theorem State.clearTimer_pos (s : State) : (s.clearTimer).pos = s.pos := rfl
@[simp] theorem State.clearTimer_idx (s : State) : (s.clearTimer).idx = s.idx := rfl
@[simp] theorem State.clearTimer_itc (s : State) : (s.clearTimer).itc = s.itc := rfl
@[simp] theorem State.clearTimer_tsu (s : State) : (s.clearTimer).tsu = s.tsu := rfl
@[simp] theorem State.clearTimer_tcnt (s : State) : (s.clearTimer).tcnt = 0 := rfl
@[simp] theorem State.clearTimer_lvl (s : State) : (s.clearTimer).lvl = s.lvl := rfl
@[simp] theorem State.clearTimer_inLine (s : State) : (s.clearTimer).inLine = s.inLine := rfl
@[simp] theorem State.clearTimer_rdata (s : State) : (s.clearTimer).rdata = s.rdata := rfl
@[simp] theorem State.clearTimer_inputs (s : State) : (s.clearTimer).inputs = s.inputs := rfl

@[simp] theorem State.countTimer_pos (s : State) : (s.countTimer).pos = s.pos := rfl
@[simp] theorem State.countTimer_idx (s : State) : (s.countTimer).idx = s.idx := rfl
@[simp] theorem State.countTimer_itc (s : State) : (s.countTimer).itc = s.itc := rfl
@[simp] theorem State.countTimer_tsu (s : State) : (s.countTimer).tsu = s.tsu := rfl
@[simp] theorem State.countTimer_tcnt (s : State) : (s.countTimer).tcnt = BitVec.ofNat 16 ((s.tcnt.toNat + 1) % 2 ^ Config.hw.tcntW) := rfl
@[simp] theorem State.countTimer_lvl (s : State) : (s.countTimer).lvl = s.lvl := rfl
@[simp] theorem State.countTimer_inLine (s : State) : (s.countTimer).inLine = s.inLine := rfl
@[simp] theorem State.countTimer_rdata (s : State) : (s.countTimer).rdata = s.rdata := rfl
@[simp] theorem State.countTimer_inputs (s : State) : (s.countTimer).inputs = s.inputs := rfl

@[simp] theorem State.rearmLines_pos (s : State) : (s.rearmLines).pos = s.pos := rfl
@[simp] theorem State.rearmLines_idx (s : State) : (s.rearmLines).idx = s.idx := rfl
@[simp] theorem State.rearmLines_itc (s : State) : (s.rearmLines).itc = s.itc := rfl
@[simp] theorem State.rearmLines_tsu (s : State) : (s.rearmLines).tsu = s.tsu := rfl
@[simp] theorem State.rearmLines_tcnt (s : State) : (s.rearmLines).tcnt = s.tcnt := rfl
@[simp] theorem State.rearmLines_lvl (s : State) : (s.rearmLines).lvl = s.inLine := rfl
@[simp] theorem State.rearmLines_inLine (s : State) : (s.rearmLines).inLine = s.inLine := rfl
@[simp] theorem State.rearmLines_rdata (s : State) : (s.rearmLines).rdata = s.rdata := rfl
@[simp] theorem State.rearmLines_inputs (s : State) : (s.rearmLines).inputs = s.inputs := rfl

@[simp] theorem State.setLine_pos (l : Fin 3) (v : Bool) (s : State) : (s.setLine l v).pos = s.pos := rfl
@[simp] theorem State.setLine_idx (l : Fin 3) (v : Bool) (s : State) : (s.setLine l v).idx = s.idx := rfl
@[simp] theorem State.setLine_itc (l : Fin 3) (v : Bool) (s : State) : (s.setLine l v).itc = s.itc := rfl
@[simp] theorem State.setLine_tsu (l : Fin 3) (v : Bool) (s : State) : (s.setLine l v).tsu = s.tsu := rfl
@[simp] theorem State.setLine_tcnt (l : Fin 3) (v : Bool) (s : State) : (s.setLine l v).tcnt = s.tcnt := rfl
@[simp] theorem State.setLine_lvl (l : Fin 3) (v : Bool) (s : State) : (s.setLine l v).lvl = s.lvl := rfl
@[simp] theorem State.setLine_inLine (l : Fin 3) (v : Bool) (s : State) : (s.setLine l v).inLine = s.inLine.set l v := rfl
@[simp] theorem State.setLine_rdata (l : Fin 3) (v : Bool) (s : State) : (s.setLine l v).rdata = s.rdata := rfl
@[simp] theorem State.setLine_inputs (l : Fin 3) (v : Bool) (s : State) : (s.setLine l v).inputs = s.inputs := rfl

@[simp] theorem State.setLines_pos (levels : LineLevels) (s : State) : (s.setLines levels).pos = s.pos := rfl
@[simp] theorem State.setLines_idx (levels : LineLevels) (s : State) : (s.setLines levels).idx = s.idx := rfl
@[simp] theorem State.setLines_itc (levels : LineLevels) (s : State) : (s.setLines levels).itc = s.itc := rfl
@[simp] theorem State.setLines_tsu (levels : LineLevels) (s : State) : (s.setLines levels).tsu = s.tsu := rfl
@[simp] theorem State.setLines_tcnt (levels : LineLevels) (s : State) : (s.setLines levels).tcnt = s.tcnt := rfl
@[simp] theorem State.setLines_lvl (levels : LineLevels) (s : State) : (s.setLines levels).lvl = s.lvl := rfl
@[simp] theorem State.setLines_inLine (levels : LineLevels) (s : State) : (s.setLines levels).inLine = levels := rfl
@[simp] theorem State.setLines_rdata (levels : LineLevels) (s : State) : (s.setLines levels).rdata = s.rdata := rfl
@[simp] theorem State.setLines_inputs (levels : LineLevels) (s : State) : (s.setLines levels).inputs = s.inputs := rfl

@[simp] theorem State.setReference_pos (l : Fin 3) (v : Bool) (s : State) : (s.setReference l v).pos = s.pos := rfl
@[simp] theorem State.setReference_idx (l : Fin 3) (v : Bool) (s : State) : (s.setReference l v).idx = s.idx := rfl
@[simp] theorem State.setReference_itc (l : Fin 3) (v : Bool) (s : State) : (s.setReference l v).itc = s.itc := rfl
@[simp] theorem State.setReference_tsu (l : Fin 3) (v : Bool) (s : State) : (s.setReference l v).tsu = s.tsu := rfl
@[simp] theorem State.setReference_tcnt (l : Fin 3) (v : Bool) (s : State) : (s.setReference l v).tcnt = s.tcnt := rfl
@[simp] theorem State.setReference_lvl (l : Fin 3) (v : Bool) (s : State) : (s.setReference l v).lvl = s.lvl.set l v := rfl
@[simp] theorem State.setReference_inLine (l : Fin 3) (v : Bool) (s : State) : (s.setReference l v).inLine = s.inLine := rfl
@[simp] theorem State.setReference_rdata (l : Fin 3) (v : Bool) (s : State) : (s.setReference l v).rdata = s.rdata := rfl
@[simp] theorem State.setReference_inputs (l : Fin 3) (v : Bool) (s : State) : (s.setReference l v).inputs = s.inputs := rfl

@[simp] theorem State.withInputs_pos (is : List Input) (s : State) : (s.withInputs is).pos = s.pos := rfl
@[simp] theorem State.withInputs_idx (is : List Input) (s : State) : (s.withInputs is).idx = s.idx := rfl
@[simp] theorem State.withInputs_itc (is : List Input) (s : State) : (s.withInputs is).itc = s.itc := rfl
@[simp] theorem State.withInputs_tsu (is : List Input) (s : State) : (s.withInputs is).tsu = s.tsu := rfl
@[simp] theorem State.withInputs_tcnt (is : List Input) (s : State) : (s.withInputs is).tcnt = s.tcnt := rfl
@[simp] theorem State.withInputs_lvl (is : List Input) (s : State) : (s.withInputs is).lvl = s.lvl := rfl
@[simp] theorem State.withInputs_inLine (is : List Input) (s : State) : (s.withInputs is).inLine = s.inLine := rfl
@[simp] theorem State.withInputs_rdata (is : List Input) (s : State) : (s.withInputs is).rdata = s.rdata := rfl
@[simp] theorem State.withInputs_inputs (is : List Input) (s : State) : (s.withInputs is).inputs = is := rfl

end Sys2Proof.Machine
end

