-- ==== Sys2Proof/Laws/Ops.lean ====
section
/-! SUPPORT. For each shared operation, once, everything it can do. A proof about a command cites these instead of unfolding
the operation. -/

namespace Sys2Proof.Machine

/-- The configuration of R7 meets R8, so `step` never refuses it. -/
theorem hw_admissible : Config.hw.Admissible := by decide

/-- A step takes the next arrival. -/
@[simp] theorem step_eq_serve (s : State) : step s = s.serve := if_pos hw_admissible

/-- Everything a step that answers a next state can do: stay when nothing waits, or take the first arrival. -/
theorem step_cases {s t : State} (h : step s = .next t) :
    (s.inputs = [] ∧ t = s) ∨
    ∃ i rest, s.inputs = i :: rest ∧ (s.withInputs rest).takeInput i = .next t := by
  rw [step_eq_serve] at h
  cases hi : s.inputs with
  | nil => simp [State.serve, hi] at h; exact .inl ⟨rfl, h.symm⟩
  | cons i rest => simp [State.serve, hi] at h; exact .inr ⟨i, rest, rfl, h⟩

/-- A command word that answers a next state is legal and runs its command. -/
theorem runWord_cases {w : CmdWord} {s t : State} (h : runWord w s = .next t) :
    ∃ i, decode w = .ok i ∧ exec i s = .next t := by
  unfold runWord at h
  cases hd : decode w with
  | ok i => exact ⟨i, rfl, by simpa [hd] using h⟩
  | error e => simp [hd] at h

/-- A legal command word runs its command. -/
theorem runWord_of_decode {w : CmdWord} {i : Instr} (h : decode w = .ok i) (s : State) : runWord w s = exec i s := by
  simp [runWord, h]

/-- What an arrival that answers a next state did: it ran one command on a state that differs from `s` in nothing but the
ports' levels and the reference bits, or it moved a line to the level the front end had already seen. -/
theorem takeInput_cases {i : Input} {s t : State} (h : s.takeInput i = .next t) :
    (∃ l v, i = .lineLevel l v ∧ s.lvl[l] = v ∧ t = s.setLine l v) ∨
    (∃ l v, i = .lineLevel l v ∧ s.lvl[l] ≠ v ∧
      runWord (encode (.edge (lineOperand l) v)) ((s.setLine l v).setReference l v) = .next t) ∨
    (∃ levels, i = .powerOnReset levels ∧ runWord (encode .rst) (s.setLines levels) = .next t) ∨
    (∃ w, runWord w s = .next t) := by
  cases i with
  | cntStrobe => exact .inr (.inr (.inr ⟨encode .cnt, h⟩))
  | tickStrobe => exact .inr (.inr (.inr ⟨encode .tick, h⟩))
  | lineLevel l v =>
    by_cases hl : s.lvl[l] = v
    · rw [State.takeInput, State.sampleLine, if_pos hl] at h
      injection h with h
      exact .inl ⟨l, v, rfl, hl, h.symm⟩
    · rw [State.takeInput, State.sampleLine, if_neg hl] at h
      exact .inr (.inl ⟨l, v, rfl, hl, h⟩)
  | extraEdge l v => exact .inr (.inr (.inr ⟨encode (.edge (lineOperand l) v), h⟩))
  | command a w => exact .inr (.inr (.inr ⟨w, h⟩))
  | powerOnReset levels => exact .inr (.inr (.inl ⟨levels, rfl, h⟩))

/-- `ITC ≥ RESYNC_TICKS` with R7's value. -/
theorem resyncDue_iff (s : State) : s.resyncDue = true ↔ 50 ≤ s.itc.toNat := decide_eq_true_iff

/-- `IDX < N` with R7's value. -/
theorem slotOpen_iff (s : State) : s.slotOpen = true ↔ s.idx.toNat < 3 := decide_eq_true_iff

/-- `e < DEBOUNCE` with R7's value. -/
theorem tooClose_iff (s : State) : s.tooClose = true ↔ s.tcnt.toNat < 400 := decide_eq_true_iff

/-- The acceptance window of any configuration. -/
theorem inWindow_iff (c : Config) (e : Nat) : inWindow c e = true ↔ c.winLo < e ∧ e < c.winHi := by
  simp [inWindow]

/-- The acceptance window with R7's values. -/
theorem inWindow_hw_iff (e : Nat) : inWindow Config.hw e = true ↔ 800 < e ∧ e < 2200 := inWindow_iff _ _

/-- Everything EDGE can do, with the conditions on entry and the kind they decide (R114). -/
theorem takeEdge_cases (s : State) :
    (s.resyncDue = true ∧ s.edgeKind = .resync ∧ s.takeEdge = s.resynchronise) ∨
    (s.resyncDue = false ∧ s.slotOpen = false ∧ s.edgeKind = .completedCycle ∧ s.takeEdge = s.clearGap) ∨
    (s.resyncDue = false ∧ s.slotOpen = true ∧ s.tooClose = true ∧ s.edgeKind = .debounced ∧ s.takeEdge = s) ∨
    (s.resyncDue = false ∧ s.slotOpen = true ∧ s.tooClose = false ∧ inWindow Config.hw s.elapsed = true ∧
      s.edgeKind = .stored ∧ s.takeEdge = s.acceptEdge.clearGap) ∨
    (s.resyncDue = false ∧ s.slotOpen = true ∧ s.tooClose = false ∧ inWindow Config.hw s.elapsed = false ∧
      s.edgeKind = .held ∧ s.takeEdge = s.acceptEdge.clearGap) := by
  unfold State.edgeKind State.takeEdge
  cases s.resyncDue <;> cases s.slotOpen <;> cases s.tooClose <;> cases inWindow Config.hw s.elapsed <;> simp

/-- Store or hold touches no register but POS. -/
@[simp] theorem storeOrHold_idx (e : Nat) (s : State) : (s.storeOrHold e).idx = s.idx := by
  unfold State.storeOrHold; split <;> rfl
@[simp] theorem storeOrHold_itc (e : Nat) (s : State) : (s.storeOrHold e).itc = s.itc := by
  unfold State.storeOrHold; split <;> rfl
@[simp] theorem storeOrHold_tsu (e : Nat) (s : State) : (s.storeOrHold e).tsu = s.tsu := by
  unfold State.storeOrHold; split <;> rfl
@[simp] theorem storeOrHold_tcnt (e : Nat) (s : State) : (s.storeOrHold e).tcnt = s.tcnt := by
  unfold State.storeOrHold; split <;> rfl
@[simp] theorem storeOrHold_lvl (e : Nat) (s : State) : (s.storeOrHold e).lvl = s.lvl := by
  unfold State.storeOrHold; split <;> rfl
@[simp] theorem storeOrHold_inLine (e : Nat) (s : State) : (s.storeOrHold e).inLine = s.inLine := by
  unfold State.storeOrHold; split <;> rfl
@[simp] theorem storeOrHold_rdata (e : Nat) (s : State) : (s.storeOrHold e).rdata = s.rdata := by
  unfold State.storeOrHold; split <;> rfl
@[simp] theorem storeOrHold_inputs (e : Nat) (s : State) : (s.storeOrHold e).inputs = s.inputs := by
  unfold State.storeOrHold; split <;> rfl

/-- What the sequencer's advance leaves (R111). -/
@[simp] theorem advanceSequencer_pos (s : State) : s.advanceSequencer.pos = s.pos := by
  unfold State.advanceSequencer; split <;> rfl
@[simp] theorem advanceSequencer_idx (s : State) : s.advanceSequencer.idx = s.idx + 1 := by
  unfold State.advanceSequencer; split <;> rfl
@[simp] theorem advanceSequencer_itc (s : State) : s.advanceSequencer.itc = s.itc := by
  unfold State.advanceSequencer; split <;> rfl
@[simp] theorem advanceSequencer_tsu (s : State) :
    s.advanceSequencer.tsu = if (s.idx + 1).toNat = 3 then 0 else s.tsu := by
  show State.tsu (if (s.idx + 1).toNat = 3 then _ else _) = _
  split <;> rfl
@[simp] theorem advanceSequencer_tcnt (s : State) : s.advanceSequencer.tcnt = s.tcnt := by
  unfold State.advanceSequencer; split <;> rfl
@[simp] theorem advanceSequencer_lvl (s : State) : s.advanceSequencer.lvl = s.lvl := by
  unfold State.advanceSequencer; split <;> rfl
@[simp] theorem advanceSequencer_inLine (s : State) : s.advanceSequencer.inLine = s.inLine := by
  unfold State.advanceSequencer; split <;> rfl
@[simp] theorem advanceSequencer_rdata (s : State) : s.advanceSequencer.rdata = s.rdata := by
  unfold State.advanceSequencer; split <;> rfl
@[simp] theorem advanceSequencer_inputs (s : State) : s.advanceSequencer.inputs = s.inputs := by
  unfold State.advanceSequencer; split <;> rfl

/-- Everything an accepted edge does before its clear of ITC (R105, R110, R111). -/
theorem acceptEdge_eq (s : State) :
    s.acceptEdge = { s with
      pos := if inWindow Config.hw s.elapsed
        then s.pos.setIfInBounds s.idx.toNat (BitVec.ofInt 8 (positionOf Config.hw s.elapsed)) else s.pos
      idx := s.idx + 1, tsu := if (s.idx + 1).toNat = 3 then 0 else s.tsu, tcnt := 0 } := by
  apply State.ext <;> simp [State.acceptEdge]
  unfold State.storeOrHold
  split <;> simp_all

/-- EDGE reads no read-data output and no waiting input, nor the front end: a change of those commutes with it. -/
theorem takeEdge_frame (s : State) (lv il : LineLevels) (r : ReadData) (is : List Input) :
    State.takeEdge { s with lvl := lv, inLine := il, rdata := r, inputs := is } =
      { s.takeEdge with lvl := lv, inLine := il, rdata := r, inputs := is } := by
  have hr : State.resyncDue { s with lvl := lv, inLine := il, rdata := r, inputs := is } = s.resyncDue := rfl
  have ho : State.slotOpen { s with lvl := lv, inLine := il, rdata := r, inputs := is } = s.slotOpen := rfl
  have hc : State.tooClose { s with lvl := lv, inLine := il, rdata := r, inputs := is } = s.tooClose := rfl
  unfold State.takeEdge
  rw [acceptEdge_eq, acceptEdge_eq, hr, ho, hc]
  cases s.resyncDue <;> cases s.slotOpen <;> cases s.tooClose <;> rfl

/-- EDGE leaves what waits. -/
@[simp] theorem takeEdge_inputs (s : State) : s.takeEdge.inputs = s.inputs := by
  have h := congrArg State.inputs (takeEdge_frame s s.lvl s.inLine s.rdata s.inputs)
  simpa using h

/-- EDGE leaves the input port. -/
@[simp] theorem takeEdge_inLine (s : State) : s.takeEdge.inLine = s.inLine := by
  have h := congrArg State.inLine (takeEdge_frame s s.lvl s.inLine s.rdata s.inputs)
  simpa using h

/-- EDGE leaves the reference bits (R32). -/
@[simp] theorem takeEdge_lvl (s : State) : s.takeEdge.lvl = s.lvl := by
  have h := congrArg State.lvl (takeEdge_frame s s.lvl s.inLine s.rdata s.inputs)
  simpa using h

/-- The gap counter after a tick, as a number (R83). -/
theorem tickGap_itc_toNat (s : State) : (s.tickGap).itc.toNat = min (s.itc.toNat + 1) 65535 := by
  simp [sat, Config.hw]

/-- The staleness counter after a tick, as a number (R83). -/
theorem tickStaleness_tsu_toNat (s : State) : (s.tickStaleness).tsu.toNat = min (s.tsu.toNat + 1) 65535 := by
  simp [sat, Config.hw]

/-- The timer after a count, as a number (R82). -/
theorem countTimer_tcnt_toNat (s : State) : (s.countTimer).tcnt.toNat = (s.tcnt.toNat + 1) % 65536 := by
  simp [Config.hw]

/-- A written entry reads as what was written, and every other entry as before. -/
theorem posAt_writePos (i j : Nat) (p : Int) (s : State) :
    (s.writePos i p).posAt j = if i = j ∧ j < 3 then BitVec.ofInt 8 p else s.posAt j := by
  unfold State.posAt
  rw [State.writePos_pos, Vector.getElem?_setIfInBounds]
  by_cases h : i = j
  · subst h
    by_cases hi : i < 3 <;> simp [hi]
  · simp [h]

end Sys2Proof.Machine
end

