-- ==== Sys2Proof/Laws/Exec.lean ====
section
/-! SUPPORT. Each command as the one next state it answers, for citing instead of unfolding `exec`. -/

namespace Sys2Proof.Machine

@[simp] theorem exec_nop (s : State) : exec .nop s = .next (s.drive 0) := rfl
@[simp] theorem exec_rst (s : State) : exec .rst s = .next (s.initialise.drive 0) := rfl
@[simp] theorem exec_cnt (s : State) : exec .cnt s = .next (s.countTimer.drive 0) := rfl
@[simp] theorem exec_tick (s : State) : exec .tick s = .next (s.tickGap.tickStaleness.drive 0) := rfl
@[simp] theorem exec_edge (l : BitVec 2) (v : Bool) (s : State) : exec (.edge l v) s = .next (s.takeEdge.drive 0) := rfl
@[simp] theorem exec_rdpos (ch : BitVec 5) (s : State) : exec (.rdpos ch) s = .next (s.drive (s.readChannel ch)) := rfl
@[simp] theorem exec_rdtsu (s : State) : exec .rdtsu s = .next (s.drive s.readStaleness) := rfl

end Sys2Proof.Machine
end

