-- ==== Sys2Proof/Laws/PerInstr.lean ====
section
/-! SUPPORT. The family OpField: a command's word carries the op of its row in R61's table, in `cmd[7:5]`. -/

namespace Sys2Proof.Laws.OpField

/-- The op column of R61's table. -/
def opOf : Instr → BitVec 3
  | .nop => 0
  | .rst => 1
  | .cnt => 2
  | .tick => 3
  | .edge _ _ => 4
  | .rdpos _ => 5
  | .rdtsu => 6

/-- The op field of a command's word is its row's op. -/
def Statement (i : Instr) : Prop := opField (encode i) = opOf i

theorem nop : Statement .nop := by unfold Statement; decide
theorem rst : Statement .rst := by unfold Statement; decide
theorem cnt : Statement .cnt := by unfold Statement; decide
theorem tick : Statement .tick := by unfold Statement; decide
theorem edge (l : BitVec 2) (v : Bool) : Statement (.edge l v) := by unfold Statement; decide +revert
theorem rdpos (ch : BitVec 5) : Statement (.rdpos ch) := by unfold Statement; decide +revert
theorem rdtsu : Statement .rdtsu := by unfold Statement; decide

end Sys2Proof.Laws.OpField
end

