-- ==== Sys2Proof/Laws/Sequence.lean ====
section
/-! SUPPORT. Sequences of commands, one command at a time and in pieces. -/

namespace Sys2Proof.Machine

/-- A sequence goes on from its first command's next state. -/
theorem execSeq_cons {i : Instr} {s t : State} (h : exec i s = .next t) (is : List Instr) :
    execSeq (i :: is) s = execSeq is t := by simp [execSeq, h]

/-- The first command's read data comes first. -/
theorem readDataOf_cons {i : Instr} {s t : State} (h : exec i s = .next t) (is : List Instr) :
    readDataOf (i :: is) s = t.rdata :: readDataOf is t := by simp [readDataOf, h]

/-- The first command's kind comes first where it is an EDGE. -/
theorem edgeKindsOf_cons {i : Instr} {s t : State} (h : exec i s = .next t) (is : List Instr) :
    edgeKindsOf (i :: is) s = (if isEdge i then [s.edgeKind] else []) ++ edgeKindsOf is t := by
  simp only [edgeKindsOf, h]
  split <;> rfl

/-- Where the first piece ends, the second begins: the state. -/
theorem execSeq_append {as : List Instr} {s t : State} (h : execSeq as s = .next t) (bs : List Instr) :
    execSeq (as ++ bs) s = execSeq bs t := by
  induction as generalizing s with
  | nil => injection h with h; rw [← h]; rfl
  | cons i as ih =>
    cases he : exec i s with
    | next u =>
      rw [execSeq_cons he] at h
      rw [List.cons_append, execSeq_cons he]
      exact ih h
    | fault f => simp [execSeq, he] at h
    | refused r => simp [execSeq, he] at h

/-- Where the first piece ends, the second begins: the kinds of the edges. -/
theorem edgeKindsOf_append {as : List Instr} {s t : State} (h : execSeq as s = .next t) (bs : List Instr) :
    edgeKindsOf (as ++ bs) s = edgeKindsOf as s ++ edgeKindsOf bs t := by
  induction as generalizing s with
  | nil => injection h with h; rw [← h]; rfl
  | cons i as ih =>
    cases he : exec i s with
    | next u =>
      rw [execSeq_cons he] at h
      rw [List.cons_append, edgeKindsOf_cons he, edgeKindsOf_cons he, ih h, List.append_assoc]
    | fault f => simp [execSeq, he] at h
    | refused r => simp [execSeq, he] at h

/-- A wait of `k` counts that does not wrap the timer. -/
theorem execSeq_wait (k : Nat) (s : State) (h : s.tcnt.toNat + k < 65536) (hr : s.rdata = 0) :
    execSeq (List.replicate k .cnt) s = .next { s with tcnt := BitVec.ofNat 16 (s.tcnt.toNat + k) } := by
  induction k generalizing s with
  | zero => simp [execSeq]
  | succ k ih =>
    have ht : (s.countTimer.drive 0).tcnt.toNat = s.tcnt.toNat + 1 := by
      rw [State.drive_tcnt, countTimer_tcnt_toNat]; omega
    rw [List.replicate_succ, execSeq_cons (exec_cnt s), ih _ (by omega) rfl, ht]
    simp [State.drive, State.countTimer, hr, Nat.add_assoc, Nat.add_comm 1 k]

/-- A wait takes no edge. -/
theorem edgeKindsOf_wait (k : Nat) (s : State) : edgeKindsOf (List.replicate k .cnt) s = [] := by
  induction k generalizing s with
  | zero => rfl
  | succ k ih => rw [List.replicate_succ, edgeKindsOf_cons (exec_cnt s), ih]; rfl

/-- A run of `k` ticks that saturates neither counter. -/
theorem execSeq_ticks (k : Nat) (s : State) (hi : s.itc.toNat + k < 65536) (ht : s.tsu.toNat + k < 65536)
    (hr : s.rdata = 0) :
    execSeq (List.replicate k .tick) s =
      .next { s with itc := BitVec.ofNat 16 (s.itc.toNat + k), tsu := BitVec.ofNat 16 (s.tsu.toNat + k) } := by
  induction k generalizing s with
  | zero => simp [execSeq]
  | succ k ih =>
    have hi' : (s.tickGap.tickStaleness.drive 0).itc.toNat = s.itc.toNat + 1 := by
      rw [State.drive_itc, State.tickStaleness_itc, tickGap_itc_toNat]; omega
    have ht' : (s.tickGap.tickStaleness.drive 0).tsu.toNat = s.tsu.toNat + 1 := by
      rw [State.drive_tsu, tickStaleness_tsu_toNat, State.tickGap_tsu]; omega
    rw [List.replicate_succ, execSeq_cons (exec_tick s), ih _ (by omega) (by omega) rfl, hi', ht']
    simp [State.drive, State.tickGap, State.tickStaleness, hr, Nat.add_assoc, Nat.add_comm 1 k]

/-- A run of ticks takes no edge. -/
theorem edgeKindsOf_ticks (k : Nat) (s : State) : edgeKindsOf (List.replicate k .tick) s = [] := by
  induction k generalizing s with
  | zero => rfl
  | succ k ih => rw [List.replicate_succ, edgeKindsOf_cons (exec_tick s), ih]; rfl

end Sys2Proof.Machine
end

