-- ==== Sys2Proof/Tests/Slice0.lean ====
section
/-! SUPPORT. The model's own tests. Expected words and states are those of 30_encoding.md and of the tables of
95_test_vectors.md; the smoke tests give each check of WellFormed an ill-formed term; the theorems named `witness_…` show, for
each statement of the certificate that has hypotheses, a state and operands that meet them together. -/

namespace Sys2Proof.Tests

open Sys2Proof.Machine

/-! ## WellFormed: each check refuses an ill-formed term -/

theorem test_edge_line_three_is_ill_formed : (Instr.edge 3 true).wellFormed = false := by decide
theorem test_edge_line_two_is_well_formed : (Instr.edge 2 false).wellFormed = true := by decide
theorem test_configuration_of_R7_is_admissible : Config.hw.Admissible := by decide
theorem test_configuration_no_channel : ¬ Config.ChannelsFit { Config.hw with n := 0 } := by decide
theorem test_configuration_index_too_narrow : ¬ Config.ChannelsFit { Config.hw with idxW := 1 } := by decide
theorem test_configuration_index_too_wide : ¬ Config.ChannelsFit { Config.hw with idxW := 3 } := by decide
theorem test_configuration_window_above_timer : ¬ Config.ThresholdsOrdered { Config.hw with winHi := 65536 } := by decide
theorem test_configuration_debounce_above_window : ¬ Config.ThresholdsOrdered { Config.hw with debounce := 801 } := by decide
theorem test_configuration_clamp_out_of_range : ¬ Config.MappingFits { Config.hw with clampHi := 2010 } := by decide
theorem test_configuration_resync_never : ¬ Config.ResyncReachable { Config.hw with resyncTicks := 65536 } := by decide
theorem test_configuration_staleness_unreadable : ¬ Config.StalenessReadable { Config.hw with tsuW := 17 } := by decide

/-- The widths that State's types fix are the parameters of R7. -/
theorem test_state_widths_are_R7 :
    (Config.hw.posW, Config.hw.idxW, Config.hw.itcW, Config.hw.tsuW, Config.hw.tcntW, Config.hw.rdataW, Config.hw.cmdW) =
      (8, 2, 16, 16, 16, 16, 8) := by decide

/-! ## Decode: the words of 95_test_vectors.md section 2.5, and one per constructor from R61 -/

theorem test_decode_nop : decode 0b00000000#8 = .ok .nop := by decide
theorem test_decode_rst : decode 0b00100000#8 = .ok .rst := by decide
theorem test_decode_cnt : decode 0b01000000#8 = .ok .cnt := by decide
theorem test_decode_tick : decode 0b01100000#8 = .ok .tick := by decide
theorem test_decode_edge_rising_two : decode 0b10000110#8 = .ok (.edge 2 true) := by decide
theorem test_decode_edge_falling_one : decode 0b10000001#8 = .ok (.edge 1 false) := by decide
theorem test_decode_rdpos : decode 0b10100111#8 = .ok (.rdpos 7) := by decide
theorem test_decode_rdtsu : decode 0b11000000#8 = .ok .rdtsu := by decide
theorem test_decode_reserved_words :
    [0x01#8, 0x3F#8, 0x41#8, 0x7F#8, 0xC1#8].map decode = List.replicate 5 (.error .nonzeroArgument) ∧
    [0x83#8, 0x87#8].map decode = List.replicate 2 (.error .edgeLineThree) ∧
    [0x88#8, 0x9F#8].map decode = List.replicate 2 (.error .edgeHighBits) ∧
    [0xE0#8, 0xFF#8].map decode = List.replicate 2 (.error .reservedOp) := by decide
theorem test_table_words :
    [0x00, 0x20, 0x40, 0x60, 0x80, 0xA0, 0xC0].map (decodeTableWord 8) =
      [some .nop, some .rst, some .cnt, some .tick, some (.edge 0 false), some (.rdpos 0), some .rdtsu] := by decide

/-! ## Meanings: the vectors of 95_test_vectors.md section 2 -/

/-- The state that 95_test_vectors.md writes `(p₀, p₁, p₂), idx, itc, tsu, tcnt`, RDATA 0. -/
def st (p₀ p₁ p₂ : Int) (idx itc tsu tcnt : Nat) : State :=
  { State.reset with
    pos := #v[BitVec.ofInt 8 p₀, BitVec.ofInt 8 p₁, BitVec.ofInt 8 p₂]
    idx := BitVec.ofNat 2 idx, itc := BitVec.ofNat 16 itc, tsu := BitVec.ofNat 16 tsu, tcnt := BitVec.ofNat 16 tcnt }

/-- The next state of a command, the state itself where there is none. -/
def after (i : Instr) (s : State) : State :=
  match exec i s with
  | .next t => t
  | .fault _ => s
  | .refused _ => s

/-- T5. -/
theorem test_nop : after .nop (st 5 (-6) 7 2 3 4 5) = st 5 (-6) 7 2 3 4 5 := by decide
/-- T6. -/
theorem test_rst : after .rst (st 0 (-127) 127 3 7 900 1234) = st 0 0 0 0 0 0 0 := by decide
/-- R81's re-arming: the reference bits take the lines' levels. -/
theorem test_rst_rearms :
    (after .rst { st 0 0 0 0 0 0 0 with inLine := #v[true, false, true] }).lvl = #v[true, false, true] := by decide
/-- T1. -/
theorem test_cnt : after .cnt (st 0 0 0 0 0 0 1499) = st 0 0 0 0 0 0 1500 := by decide
/-- T2. -/
theorem test_cnt_wraps : after .cnt (st 0 0 0 0 0 0 65535) = st 0 0 0 0 0 0 0 := by decide
/-- T3. -/
theorem test_tick : after .tick (st 0 0 0 0 49 65534 0) = st 0 0 0 0 50 65535 0 := by decide
/-- T4. -/
theorem test_tick_saturates : after .tick (st 0 0 0 0 65535 65535 0) = st 0 0 0 0 65535 65535 0 := by decide
/-- E1 to E9. -/
theorem test_edge_vectors_first :
    [st 10 20 30 1 50 9 1800, st 10 20 30 1 49 9 1800, st 10 20 30 3 65535 9 77, st 10 20 30 3 12 9 77,
      st 10 20 30 0 12 9 399, st 10 20 30 0 12 9 400, st 10 20 30 0 12 9 800, st 10 20 30 0 12 9 801,
      st 10 20 30 1 12 9 1200].map (after (.edge 0 false)) =
    [st 10 20 30 0 0 9 0, st 10 76 30 2 0 9 0, st 10 20 30 0 0 9 0, st 10 20 30 3 0 9 77,
      st 10 20 30 0 12 9 399, st 10 20 30 1 0 9 0, st 10 20 30 1 0 9 0, st (-127) 20 30 1 0 9 0,
      st 10 (-76) 30 2 0 9 0] := by decide
/-- E10 to E15 and E18, then E16 and E17's other lines and levels. -/
theorem test_edge_vectors_second :
    [st 10 20 30 1 12 9 1504, st 10 20 30 1 12 9 1496, st 10 20 30 2 12 9 2199, st 10 20 30 2 12 9 2200,
      st 10 20 30 2 12 9 1500, st 10 20 30 2 12 9 65535, st 10 20 30 0 12 9 1900].map (after (.edge 0 false)) =
    [st 10 1 30 2 0 9 0, st 10 (-1) 30 2 0 9 0, st 10 20 127 3 0 0 0, st 10 20 30 3 0 0 0,
      st 10 20 0 3 0 0 0, st 10 20 30 3 0 0 0, st 102 20 30 1 0 9 0] ∧
    after (.edge 2 true) (st 10 20 30 0 0 0 0) = st 10 20 30 0 0 0 0 ∧
    after (.edge 1 true) (st 10 20 30 1 12 9 1800) = st 10 76 30 2 0 9 0 := by decide
/-- A1 to A5, A7 and A8. -/
theorem test_rdpos :
    [0, 1, 2, 3, 31].map (fun ch => (after (.rdpos ch) (st 0 (-127) 127 3 0 37 0)).rdata) =
      [0x0000#16, 0xFF81#16, 0x007F#16, 0x0000#16, 0x0000#16] ∧
    [0, 2].map (fun ch => (after (.rdpos ch) (st (-76) 1 (-1) 3 0 65535 0)).rdata) = [0xFFB4#16, 0xFFFF#16] := by decide
/-- A6 and A9. -/
theorem test_rdtsu :
    (after .rdtsu (st 0 (-127) 127 3 0 37 0)).rdata = 0x0025#16 ∧
    (after .rdtsu (st (-76) 1 (-1) 3 0 65535 0)).rdata = 0xFFFF#16 := by decide
/-- Section 2.4, the values beside those of R108's own table. -/
theorem test_mapping_table :
    [999, 1001, 1010, 1100, 1250, 1300, 1400, 1600, 1700, 1750, 1900, 1990, 1998, 1999, 2100].map (positionOf Config.hw) =
      [-127, -127, -124, -102, -63, -51, -25, 25, 51, 63, 102, 124, 126, 127, 127] := by decide

/-! ## The step and the ports -/

theorem test_step_runs_host_command :
    step (State.reset.withFetchWord 8 0x60) = .next (st 0 0 0 0 1 1 0) := by rfl
theorem test_step_refuses_reserved_word :
    step (State.reset.withFetchWord 8 0x83) = .refused (.reservedCommand .edgeLineThree 0x83) := by rfl
theorem test_line_transition_issues_edge :
    step { st 0 0 0 0 0 0 1500 with inputs := [.lineLevel 1 true] } =
      .next { st 0 0 0 1 0 0 0 with lvl := #v[false, true, false], inLine := #v[false, true, false] } := by rfl

/-! ## Assembler text (R71, R72) -/

theorem test_assemble_edge : assembleLine "EDGE 2, r".toList = some [0x86#8] := by decide
theorem test_assemble_elapse : assembleLine " ELAPSE 2,0x1 ; text".toList = some [0x40#8, 0x40#8, 0x60#8] := by decide
theorem test_assemble_comment_only : assembleLine "; nothing".toList = some [] := by decide
theorem test_assemble_rejects_lower_case : assembleLine "nop".toList = none := by decide

/-! ## Witnesses -/

theorem witness_CntAdvancesTimerModuloTwoToSixteen :
    (st 0 0 0 0 0 0 65535).tcnt = 0xFFFF#16 ∧
    (State.reset.withInputs [.cntStrobe]).inputs = .cntStrobe :: [] := by decide
theorem witness_TickSaturatesBothCounters :
    (st 0 0 0 0 65535 65535 0).itc = 0xFFFF#16 ∧ (st 0 0 0 0 65535 65535 0).tsu = 0xFFFF#16 ∧
    (State.reset.withInputs [.tickStrobe]).inputs = .tickStrobe :: [] := by decide
theorem witness_EdgeHasExactlyOneOfFiveEffects :
    (st 0 0 0 1 50 9 1800).edgeKind = .resync ∧ (st 0 0 0 3 49 9 0).edgeKind = .completedCycle ∧
    (st 0 0 0 2 49 9 399).edgeKind = .debounced ∧
    ((st 0 0 0 0 49 9 801).edgeKind = .stored ∧ (st 0 0 0 2 0 9 2199).edgeKind = .stored ∧
      (st 0 0 0 2 0 9 2199).idx.toNat < 3) ∧
    ((st 0 0 0 0 49 9 400).edgeKind = .held ∧ (st 0 0 0 0 49 9 800).edgeKind = .held ∧
      (st 0 0 0 2 0 9 2200).edgeKind = .held) := by decide
theorem witness_MappingRoundsTowardZero :
    (∃ ec : Nat, ∃ prod p : Int, 1000 ≤ ec ∧ ec ≤ 2000 ∧ prod = ((ec : Int) - 1500) * 255 ∧ p = mapClamped Config.hw ec) :=
  ⟨1000, -127500, -127, by decide, by decide, by decide, by decide⟩
theorem witness_AdmissibleConfigurationMapsIntoRange :
    ∃ c : Config, c.Admissible ∧ (∀ w, c.n < 2 ^ w → c.idxW ≤ w) ∧ inWindow c 801 = true ∧ inWindow c 2199 = true := by
  refine ⟨Config.hw, by decide, ?_, by decide, by decide⟩
  intro w h
  by_contra hw
  have hw' : w = 0 ∨ w = 1 := by simp only [Config.hw] at hw; omega
  rcases hw' with rfl | rfl <;> exact absurd h (by decide)
theorem witness_MappingIsMonotoneWithSaturatedEnds :
    ∃ e₁ e₂ e₃ e₄ e₅ : Nat, (800 < e₁ ∧ e₁ ≤ e₂ ∧ e₂ < 2200) ∧ (800 < e₃ ∧ e₃ ≤ 1001) ∧ (1999 ≤ e₄ ∧ e₄ < 2200) ∧
      (1497 ≤ e₅ ∧ e₅ ≤ 1503) := ⟨801, 2199, 1001, 1999, 1503, by decide⟩
theorem witness_EdgeIgnoresLineAndLevel :
    List.Forall₂ (fun i j => i = j ∨ (isEdge i = true ∧ isEdge j = true)) [.edge 0 false, .tick] [.edge 2 true, .tick] ∧
    ∃ (is : List Instr) (s t : State), Instr.rst ∉ is ∧ EdgeKind.resync ∉ edgeKindsOf is s ∧ execSeq is s = .next t ∧
      acceptedIn is s = 1 :=
  ⟨.cons (.inr ⟨rfl, rfl⟩) (.cons (.inl rfl) .nil),
    [.edge 0 false], st 0 0 0 0 0 0 400, st 0 0 0 1 0 0 0, by decide, by decide, by rfl, by decide⟩
theorem witness_EdgeSoonAfterConsumedEdgeIsDebounced :
    ∃ (s t u : State) (is : List Instr), (s.edgeKind = .resync ∨ s.edgeKind.accepted = true) ∧
      exec (.edge 0 true) s = .next t ∧ Instr.rst ∉ is ∧ is.count .cnt < 400 ∧ is.count .tick < 50 ∧
      execSeq is t = .next u ∧ t.idx.toNat < 3 :=
  ⟨st 0 0 0 1 0 0 1500, st 0 0 0 2 0 0 0, st 0 0 0 2 1 1 1, [.cnt, .edge 2 false, .tick], by decide, by rfl, by decide,
    by decide, by decide, by rfl, by decide⟩

/-- Two accepted edges, 400 counts after each. -/
def twoEdges : List Instr :=
  ([.edge 0 true] ++ List.replicate 400 .cnt) ++ ([.edge 0 false] ++ List.replicate 400 .cnt)

/-- The half of `twoEdges` from IDX = i, TCNT = 400. -/
theorem half_edge (i : Nat) (v : Bool) (h : i = 0 ∨ i = 1) :
    execSeq ([.edge 0 v] ++ List.replicate 400 .cnt) (st 0 0 0 i 0 0 400) = .next (st 0 0 0 (i + 1) 0 0 400) ∧
    edgeKindsOf ([.edge 0 v] ++ List.replicate 400 .cnt) (st 0 0 0 i 0 0 400) = [.held] := by
  have e : execSeq [.edge 0 v] (st 0 0 0 i 0 0 400) = .next (st 0 0 0 (i + 1) 0 0 0) := by
    rcases h with rfl | rfl <;> rfl
  have k : edgeKindsOf [.edge 0 v] (st 0 0 0 i 0 0 400) = [.held] := by rcases h with rfl | rfl <;> rfl
  constructor
  · rw [execSeq_append e]; rcases h with rfl | rfl <;> exact execSeq_wait _ _ (by decide) rfl
  · rw [edgeKindsOf_append e, edgeKindsOf_wait, k]; rfl

theorem twoEdges_run :
    execSeq twoEdges (st 0 0 0 0 0 0 400) = .next (st 0 0 0 2 0 0 400) ∧
    edgeKindsOf twoEdges (st 0 0 0 0 0 0 400) = [.held, .held] := by
  have a := half_edge 0 true (.inl rfl)
  have b := half_edge 1 false (.inr rfl)
  exact ⟨by rw [twoEdges, execSeq_append a.1]; exact b.1, by rw [twoEdges, edgeKindsOf_append a.1, a.2, b.2]; rfl⟩

theorem twoEdges_no_rst : Instr.rst ∉ twoEdges := by
  simp only [twoEdges, List.mem_append, List.mem_replicate, List.mem_singleton]
  rintro ((h | h) | (h | h)) <;> simp at h

theorem witness_ThirdAcceptedEdgeCompletesCycle :
    ∃ (is : List Instr) (s t : State), s.idx = 0 ∧ Instr.rst ∉ is ∧ EdgeKind.resync ∉ edgeKindsOf is s ∧
      acceptedIn is s = 2 ∧ execSeq is s = .next t ∧ t.edgeKind.accepted = true := by
  refine ⟨twoEdges, st 0 0 0 0 0 0 400, st 0 0 0 2 0 0 400, by decide, twoEdges_no_rst, ?_, ?_, twoEdges_run.1, by decide⟩
  · rw [twoEdges_run.2]; decide
  · rw [acceptedIn, twoEdges_run.2]; decide
theorem witness_IncompleteCycleNeverClearsStaleness :
    ∃ (is : List Instr) (s t : State), s.idx = 0 ∧ Instr.rst ∉ is ∧ EdgeKind.resync ∉ edgeKindsOf is s ∧
      acceptedIn is s < 3 ∧ execSeq is s = .next t := by
  refine ⟨twoEdges, st 0 0 0 0 0 0 400, st 0 0 0 2 0 0 400, by decide, twoEdges_no_rst, ?_, ?_, twoEdges_run.1⟩
  · rw [twoEdges_run.2]; decide
  · rw [acceptedIn, twoEdges_run.2]; decide
theorem witness_RdposReadsChannelMap : (2#5).toNat < 3 ∧ 3 ≤ (3#5).toNat ∧ 3 ≤ (31#5).toNat := by decide
theorem witness_AccessorsDoNotDisturbDecoding :
    (∀ i ∈ [Instr.rdpos 31, Instr.rdtsu], isAccessor i = true) := by decide
theorem witness_ReadsRepeatAndResetIsIdempotent :
    (isAccessor (.rdpos 0) = true ∧ isAccessor .rdtsu = true) ∧
    (st 0 0 0 0 49 0 400).idx = 0 ∧ (st 0 0 0 0 49 0 400).itc.toNat < 50 ∧ 400 ≤ (st 0 0 0 0 49 0 400).tcnt.toNat := by decide
theorem witness_DecodeInvertsEncode :
    (Instr.edge 2 true).wellFormed = true ∧ decode 0xBF#8 = .ok (.rdpos 31) := by decide
theorem witness_ReservedWordsAreRefused :
    (State.reset.withInputs [.command .host 0x1F#8]).inputs = .command .host 0x1F#8 :: [] ∧
    (0x01 ≤ (0x1F#8).toNat ∧ (0x1F#8).toNat ≤ 0x1F) ∧ (0xC1 ≤ (0xC1#8).toNat ∧ (0xC1#8).toNat ≤ 0xDF) ∧
    (0x87#8 = 0x83#8 ∨ 0x87#8 = 0x87#8) ∧ (0x88 ≤ (0x88#8).toNat ∧ (0x88#8).toNat ≤ 0x9F) ∧ 0xE0 ≤ (0xFF#8).toNat := by
  decide
theorem witness_CommandTextAssemblesToItsWord :
    (Instr.edge 2 false).wellFormed = true ∧ (Instr.rdpos 31).wellFormed = true ∧ Instr.rdtsu.wellFormed = true := by decide
theorem witness_ElapseExpansionsAgree :
    (AsmLine.elapse 1 1).Expands [.cnt, .tick] ∧ (AsmLine.elapse 1 1).Expands [.tick, .cnt] := by
  exact ⟨by simp [AsmLine.Expands], by simp [AsmLine.Expands]⟩
theorem witness_StepRunsDecodedCommand :
    (State.reset.withInputs [.command .timebase 0x80#8]).inputs = .command .timebase 0x80#8 :: [] ∧
    decode 0x80#8 = .ok (.edge 0 false) := by decide
theorem witness_IdleBlockKeepsItsState : State.reset.inputs = [] := rfl
theorem witness_FrontEndIssuesOneEdgePerTransition :
    ((State.reset.withInputs [.lineLevel 2 true]).inputs = .lineLevel 2 true :: [] ∧ State.reset.lvl[(2 : Fin 3)] ≠ true) ∧
    ((State.reset.withInputs [.lineLevel 0 false]).inputs = .lineLevel 0 false :: [] ∧
      State.reset.lvl[(0 : Fin 3)] = false) ∧
    (State.reset.withInputs [.extraEdge 1 true]).inputs = .extraEdge 1 true :: [] := by decide
theorem witness_PowerOnReset :
    (State.reset.withInputs [.powerOnReset #v[true, false, true]]).inputs = .powerOnReset #v[true, false, true] :: [] := by
  decide
theorem witness_RunsFollowTheSerialOrder :
    ∀ c ∈ [(Agent.host, Instr.rdtsu), (Agent.edgeFrontEnd, Instr.edge 1 true)], c.2.wellFormed = true := by decide

/-- One count and one tick issued. -/
def oneEach : Agent → List Input
  | .timebase => [.cntStrobe]
  | .tickSource => [.tickStrobe]
  | .edgeFrontEnd => []
  | .host => []
  | .resetPort => []

theorem witness_TimebaseAndTickOrderIsImmaterial :
    (∀ i ∈ oneEach .timebase, i = .cntStrobe) ∧ (∀ i ∈ oneEach .tickSource, i = .tickStrobe) ∧
    oneEach .edgeFrontEnd = [] ∧ oneEach .host = [] ∧ oneEach .resetPort = [] ∧
    Serialises oneEach [.cntStrobe, .tickStrobe] ∧ Serialises oneEach [.tickStrobe, .cntStrobe] := by
  refine ⟨by decide, by decide, rfl, rfl, rfl, ?_, ?_⟩ <;> intro a <;> cases a <;> rfl
theorem witness_SimultaneousOrderConsequences :
    (st 0 0 0 1 49 0 1500).itc = 49 ∧ (st 0 0 0 3 0 0 0).edgeKind = .completedCycle ∧
    ((st 0 0 0 2 48 0 400).edgeKind.accepted = true ∧ (st 0 0 0 2 48 0 400).itc.toNat < 49 ∧
      (st 0 0 0 2 48 0 400).idx = 2) := by decide
theorem witness_PositionChangesOnlyByStoredEdgeOrRst :
    ∃ (s t : State), exec (.edge 0 true) s = .next t ∧ t.pos[(1 : Fin 3)] ≠ s.pos[(1 : Fin 3)] :=
  ⟨st 0 0 0 1 0 0 1800, st 0 76 0 2 0 0 0, by rfl, by decide⟩
theorem witness_StalenessWritersAreTickRstAndCompletion :
    (∃ (s t : State), exec .tick s = .next t ∧ t.tsu ≠ s.tsu) ∧
    ∃ (s t : State), exec (.edge 0 true) s = .next t ∧ t.tsu ≠ s.tsu :=
  ⟨⟨st 0 0 0 0 0 65534 0, st 0 0 0 0 1 65535 0, by rfl, by decide⟩,
    ⟨st 0 0 0 2 0 9 400, st 0 0 0 3 0 0 0, by rfl, by decide⟩⟩
theorem witness_OtherRegistersHaveOnlyTheirWriters :
    (∃ (s t : State), exec (.edge 0 true) s = .next t ∧ t.idx ≠ s.idx ∧ t.itc ≠ s.itc ∧ t.tcnt ≠ s.tcnt) ∧
    ∃ (s t : State), exec .rst s = .next t ∧ t.lvl ≠ s.lvl :=
  ⟨⟨st 0 0 0 1 49 0 400, st 0 0 0 2 0 0 0, by rfl, by decide⟩,
    ⟨{ State.reset with inLine := #v[true, true, true] },
      { State.reset with inLine := #v[true, true, true], lvl := #v[true, true, true] }, by rfl, by decide⟩⟩
theorem witness_ReadDataHidesSequencerAndTimers :
    (∀ i ∈ [Instr.rdpos 0, Instr.tick, Instr.rdtsu], isEdge i = false) ∧
    (st 1 2 3 0 0 9 0).pos = (st 1 2 3 2 7 9 55).pos ∧ (st 1 2 3 0 0 9 0).tsu = (st 1 2 3 2 7 9 55).tsu := by decide
theorem witness_StepKeepsPositionsInRange :
    ∃ s t : State, s.PositionsInRange ∧ s.IndexLegal ∧ step s = .next t :=
  ⟨{ st (-127) 0 127 2 0 0 801 with inputs := [.command .host 0x80#8] }, st (-127) 0 (-127) 3 0 0 0,
    by unfold State.PositionsInRange; decide, by unfold State.IndexLegal; decide, by rfl⟩
theorem witness_StepKeepsGapWithinStaleness :
    ∃ s t : State, s.GapWithinStaleness ∧ step s = .next t :=
  ⟨{ st 0 0 0 2 12 12 400 with inputs := [.extraEdge 0 true] }, st 0 0 0 3 0 0 0,
    by unfold State.GapWithinStaleness; decide, by rfl⟩
theorem witness_StepKeepsReferencesOnLines :
    ∃ s t : State, s.ReferencesTrackLines ∧ step s = .next t :=
  ⟨{ st 0 0 0 0 0 0 0 with inputs := [.lineLevel 2 true] },
    { st 0 0 0 0 0 0 0 with lvl := #v[false, false, true], inLine := #v[false, false, true] },
    by unfold State.ReferencesTrackLines; decide, by rfl⟩
theorem witness_CntAndTickCommute :
    List.count Instr.cnt [.tick, .cnt, .tick] = 1 ∧ List.count Instr.tick [.tick, .cnt, .tick] = 2 ∧
    [Instr.tick, .cnt, .tick].length = 1 + 2 := by decide
theorem witness_TicksAloneNeverChangePositions : ∀ i ∈ [Instr.tick, .cnt, .nop, .rdpos 3], isQuiet i = true := by decide
theorem witness_DebouncedBurstIsMeasuredFromReference :
    ∃ (burst wait : List Instr) (s : State), s.idx.toNat < 3 ∧ Instr.rst ∉ burst ∧ (∀ i ∈ wait, isQuiet i = true) ∧
      s.itc.toNat + burst.count .tick + wait.count .tick < 50 ∧ s.tcnt.toNat + burst.count .cnt < 400 ∧
      400 ≤ s.tcnt.toNat + burst.count .cnt + wait.count .cnt ∧
      s.tcnt.toNat + burst.count .cnt + wait.count .cnt < 65536 :=
  ⟨[.edge 0 true, .cnt, .edge 1 false, .tick], [.cnt, .tick], st 1 2 3 1 47 60 398, by decide⟩
theorem witness_CompleteModeHoldsUntilResync :
    ∃ (is : List Instr) (s t : State), s.idx = 3 ∧ Instr.rst ∉ is ∧ EdgeKind.resync ∉ edgeKindsOf is s ∧
      execSeq is s = .next t ∧ s.itc.toNat < 50 ∧ Instr.tick ∉ is :=
  ⟨[.edge 0 true, .cnt, .edge 1 false], st 1 2 3 3 49 60 5, st 1 2 3 3 0 60 6, by decide, by decide, by decide, by rfl,
    by decide, by decide⟩
theorem witness_LongIntervalResynchronisesAtTickRate :
    ∃ (is : List Instr) (s t : State), s.idx.toNat < 3 ∧ Instr.rst ∉ is ∧ EdgeKind.resync ∉ edgeKindsOf is s ∧
      acceptedIn is s = 0 ∧ is.count .cnt / 100 ≤ is.count .tick ∧ 5000 ≤ is.count .cnt ∧ execSeq is s = .next t := by
  have e : execSeq (List.replicate 50 .tick) (st 0 0 0 1 0 0 0) = .next (st 0 0 0 1 50 50 0) :=
    execSeq_ticks 50 _ (by decide) (by decide) rfl
  have k : edgeKindsOf (List.replicate 50 .tick ++ List.replicate 5000 .cnt) (st 0 0 0 1 0 0 0) = [] := by
    rw [edgeKindsOf_append e, edgeKindsOf_ticks, edgeKindsOf_wait]; rfl
  refine ⟨List.replicate 50 .tick ++ List.replicate 5000 .cnt, st 0 0 0 1 0 0 0, st 0 0 0 1 50 50 5000, by decide, ?_, ?_,
    ?_, ?_, ?_, ?_⟩
  · simp only [List.mem_append, List.mem_replicate]
    rintro (h | h) <;> simp at h
  · rw [k]; exact List.not_mem_nil
  · rw [acceptedIn, k]; rfl
  · simp only [List.count_append, List.count_replicate]; decide
  · simp only [List.count_append, List.count_replicate]; decide
  · rw [execSeq_append e]; exact execSeq_wait _ _ (by decide) rfl
theorem witness_GapThenEdgeRestoresAlignment :
    (∀ i ∈ [Instr.cnt, .tick], isQuiet i = true) ∧ 50 ≤ (st 1 2 3 2 49 60 5).itc.toNat + List.count .tick [Instr.cnt, .tick] := by
  decide
theorem witness_CleanCycleDecodesThreePulses :
    ∃ (gap g₁ g₂ g₃ : List Instr) (s : State),
      (∀ i ∈ gap ++ g₁ ++ g₂ ++ g₃, isQuiet i = true) ∧ 50 ≤ s.itc.toNat + gap.count .tick ∧
      g₁.count .tick < 50 ∧ g₂.count .tick < 50 ∧ g₃.count .tick < 50 ∧
      (800 < g₁.count .cnt ∧ g₁.count .cnt < 2200) ∧ (800 < g₂.count .cnt ∧ g₂.count .cnt < 2200) ∧
      (800 < g₃.count .cnt ∧ g₃.count .cnt < 2200) := by
  refine ⟨[.tick], List.replicate 801 .cnt, List.replicate 1500 .cnt, List.replicate 2199 .cnt, st 0 0 0 2 49 60 5, ?_,
    by decide, ?_, ?_, ?_, ?_, ?_, ?_⟩
  · intro i hi
    simp only [List.mem_append, List.mem_replicate, List.mem_singleton] at hi
    rcases hi with ((rfl | ⟨_, rfl⟩) | ⟨_, rfl⟩) | ⟨_, rfl⟩ <;> rfl
  all_goals simp only [List.count_replicate]
  all_goals decide

end Sys2Proof.Tests
end

section
/-! PROOFS. The reset values of 10_state.md R31: after power-on, after RST, and after the `rst` port of a running machine. -/

namespace Sys2Proof.Machine

/-- What RST's state change leaves in each register (R81): nothing of the old state but the lines' present levels. -/
@[simp] theorem initialise_pos (s : State) : s.initialise.pos = #v[0, 0, 0] := rfl
@[simp] theorem initialise_idx (s : State) : s.initialise.idx = 0 := rfl
@[simp] theorem initialise_itc (s : State) : s.initialise.itc = 0 := rfl
@[simp] theorem initialise_tsu (s : State) : s.initialise.tsu = 0 := rfl
@[simp] theorem initialise_tcnt (s : State) : s.initialise.tcnt = 0 := rfl
@[simp] theorem initialise_lvl (s : State) : s.initialise.lvl = s.inLine := rfl

/-- A step with something waiting takes the first arrival, on the state without it (R48). -/
theorem step_of_inputs_cons {s : State} {i : Input} {rest : List Input} (h : s.inputs = i :: rest) :
    step s = (s.withInputs rest).takeInput i := by
  rw [step_eq_serve, State.serve, h]

/-- RST's word decodes to RST, so running it is executing RST (R61, R68). -/
theorem runWord_encode_rst (s : State) : runWord (encode .rst) s = exec .rst s :=
  runWord_of_decode (by decide) s

/-- The `rst` port has the effect of one RST with the lines at the levels it carries (R170). -/
theorem step_of_powerOnReset {s : State} {levels : LineLevels} {rest : List Input}
    (h : s.inputs = .powerOnReset levels :: rest) :
    step s = exec .rst ((s.withInputs rest).setLines levels) := by
  rw [step_of_inputs_cons h]
  exact runWord_encode_rst _

/-- RST from any state gives every register its reset value and each reference bit its line's level (R31, R81). -/
theorem exec_rst_resetValues (s : State) : ∃ t : State, exec .rst s = .next t ∧
    t.pos = #v[0, 0, 0] ∧ t.idx = 0 ∧ t.itc = 0 ∧ t.tsu = 0 ∧ t.tcnt = 0 ∧ t.lvl = s.inLine :=
  ⟨s.initialise.drive 0, exec_rst s, by simp⟩

/-- Settles O27: the reset state by its definition, RST by the registers of its state change, and the `rst` port because
its step is one RST with the lines at the port's levels. -/
theorem resetGivesEveryRegisterItsValue : Obligations.ResetGivesEveryRegisterItsValue := by
  unfold Obligations.ResetGivesEveryRegisterItsValue
  refine ⟨⟨rfl, rfl, rfl, rfl, rfl, rfl⟩, exec_rst_resetValues, ?_⟩
  intro s levels rest hinputs
  rw [step_of_powerOnReset hinputs]
  exact exec_rst_resetValues _

end Sys2Proof.Machine
end

section
/-! PROOFS. The order of counts and ticks (40_init_and_timebase.md R84) and, from it, the expansions of the pseudo-commands
(30_encoding.md R72). -/

namespace Sys2Proof.Machine

/-- A command that a strobe port issues: CNT or TICK (R160). -/
def isStrobe : Instr → Bool
  | .cnt => true
  | .tick => true
  | .nop => false
  | .rst => false
  | .edge _ _ => false
  | .rdpos _ => false
  | .rdtsu => false

theorem isStrobe_iff (i : Instr) : isStrobe i = true ↔ i = .cnt ∨ i = .tick := by
  cases i <;> simp [isStrobe]

/-- Every command answers a next state (R150). -/
theorem exec_completes (i : Instr) (s : State) : ∃ t : State, exec i s = .next t := by
  cases i <;> exact ⟨_, rfl⟩

/-- CNT and TICK commute: neither touches a register the other reads or writes (R84). -/
theorem execSeq_cnt_tick_comm (is : List Instr) (s : State) :
    execSeq (.cnt :: .tick :: is) s = execSeq (.tick :: .cnt :: is) s := by
  have hstate : (s.countTimer.drive 0).tickGap.tickStaleness.drive 0 =
      (s.tickGap.tickStaleness.drive 0).countTimer.drive 0 := rfl
  rw [execSeq_cons (exec_cnt s), execSeq_cons (exec_tick _), execSeq_cons (exec_tick s), execSeq_cons (exec_cnt _), hstate]

/-- Two neighbouring strobe commands change places without effect. -/
theorem execSeq_swap_strobes {i j : Instr} (hi : isStrobe i = true) (hj : isStrobe j = true) (is : List Instr)
    (s : State) : execSeq (i :: j :: is) s = execSeq (j :: i :: is) s := by
  rcases (isStrobe_iff i).mp hi with rfl | rfl <;> rcases (isStrobe_iff j).mp hj with rfl | rfl
  · rfl
  · exact execSeq_cnt_tick_comm is s
  · exact (execSeq_cnt_tick_comm is s).symm
  · rfl

/-- Any two orders of the same counts and ticks lead from any state to the same state (R84). -/
theorem execSeq_perm_strobes {is js : List Instr} (hperm : is.Perm js) (hall : ∀ i ∈ is, isStrobe i = true)
    (s : State) : execSeq is s = execSeq js s := by
  induction hperm generalizing s with
  | nil => rfl
  | cons i _ ih =>
    obtain ⟨t, ht⟩ := exec_completes i s
    rw [execSeq_cons ht, execSeq_cons ht]
    exact ih (fun j hj => hall j (List.mem_cons_of_mem i hj)) t
  | swap i j is => exact execSeq_swap_strobes (hall j (by simp)) (hall i (by simp)) is s
  | trans hab _ ihab ihbc => rw [ihab hall s, ihbc (fun j hj => hall j (hab.mem_iff.mpr hj)) s]

/-- The strobe commands of a sequence are its counts and its ticks. -/
theorem countP_isStrobe (is : List Instr) : is.countP isStrobe = is.count .cnt + is.count .tick := by
  induction is with
  | nil => rfl
  | cons i is ih =>
    rw [List.countP_cons, List.count_cons, List.count_cons, ih]
    cases i with
    | cnt => simp [isStrobe]; omega
    | tick => simp [isStrobe]; omega
    | _ => simp [isStrobe]

/-- The assembler's words for ELAPSE are all strobe commands. -/
theorem elapse_instrs_isStrobe {c t : Nat} {i : Instr} (h : i ∈ (AsmLine.elapse c t).instrs) : isStrobe i = true := by
  rw [isStrobe_iff]
  rcases List.mem_append.mp h with hc | ht
  · exact .inl (List.eq_of_mem_replicate hc)
  · exact .inr (List.eq_of_mem_replicate ht)

/-- How many counts and ticks the assembler writes for ELAPSE. -/
theorem elapse_instrs_counts (c t : Nat) :
    (AsmLine.elapse c t).instrs.count .cnt = c ∧ (AsmLine.elapse c t).instrs.count .tick = t ∧
    (AsmLine.elapse c t).instrs.length = c + t := by
  simp [AsmLine.instrs, List.count_replicate]

/-- The expansions of ELAPSE are the orderings of the assembler's words for it (R72). -/
theorem elapse_expands_iff_perm (c t : Nat) (is : List Instr) :
    (AsmLine.elapse c t).Expands is ↔ is.Perm (AsmLine.elapse c t).instrs := by
  obtain ⟨hcnt, htick, hlength⟩ := elapse_instrs_counts c t
  constructor
  · rintro ⟨iscnt, istick, islength⟩
    have hall : ∀ i ∈ is, isStrobe i = true :=
      List.countP_eq_length.mp (by rw [countP_isStrobe, iscnt, istick, islength])
    rw [List.perm_iff_count]
    intro i
    by_cases hi : isStrobe i = true
    · rcases (isStrobe_iff i).mp hi with rfl | rfl
      · rw [iscnt, hcnt]
      · rw [istick, htick]
    · rw [List.count_eq_zero.mpr fun hmem => hi (hall i hmem),
        List.count_eq_zero.mpr fun hmem => hi (elapse_instrs_isStrobe hmem)]
  · intro hperm
    exact ⟨by rw [hperm.count_eq, hcnt], by rw [hperm.count_eq, htick], by rw [hperm.length_eq, hlength]⟩

/-- Every expansion of ELAPSE has the effect of the assembler's words for it. -/
theorem execSeq_of_elapse_expands {c t : Nat} {is : List Instr} (h : (AsmLine.elapse c t).Expands is) (s : State) :
    execSeq is s = execSeq (AsmLine.elapse c t).instrs s :=
  (execSeq_perm_strobes ((elapse_expands_iff_perm c t is).mp h).symm (fun _ => elapse_instrs_isStrobe) s).symm

/-- The words the assembler writes for a line are one of its expansions (R72). -/
theorem expands_instrs (a : AsmLine) : a.Expands a.instrs := by
  cases a with
  | command i => rfl
  | wait k => rfl
  | ticks k => rfl
  | elapse c t => exact elapse_instrs_counts c t

/-- Settles O23: an expansion of ELAPSE reorders the assembler's words for it, and counts and ticks commute. -/
theorem elapseExpansionsAgree : Obligations.ElapseExpansionsAgree := by
  unfold Obligations.ElapseExpansionsAgree
  refine ⟨fun _ _ => Iff.rfl, fun _ _ => Iff.rfl, expands_instrs, ?_⟩
  intro c t is js s his hjs
  rw [execSeq_of_elapse_expands his, execSeq_of_elapse_expands hjs]

end Sys2Proof.Machine
end

section
/-! PROOFS. The decoder against the encoder (30_encoding.md R61 to R68), and from it the legal words of each row of the opcode
map. -/

namespace Sys2Proof

/-- A command word is its op field above its arg field (R60). -/
theorem opField_append_argField (w : CmdWord) : opField w ++ argField w = w := by
  unfold opField argField
  rw [BitVec.extractLsb'_append_extractLsb'_eq_extractLsb' (show 5 = 0 + 5 from rfl), BitVec.extractLsb'_eq_self]

/-- EDGE's level is the one bit above its line (R62). -/
theorem ofBool_levelField (w : CmdWord) : BitVec.ofBool (levelField w) = w.extractLsb' 2 1 := by
  ext i hi
  obtain rfl : i = 0 := by omega
  simp [levelField]

/-- EDGE's arg field is its zero bits, its level and its line (R62). -/
theorem edge_fields_append (w : CmdWord) :
    edgeZeroField w ++ (BitVec.ofBool (levelField w) ++ lineField w) = argField w := by
  unfold edgeZeroField lineField argField
  rw [ofBool_levelField, BitVec.extractLsb'_append_extractLsb'_eq_extractLsb' (show 2 = 0 + 2 from rfl),
    BitVec.extractLsb'_append_extractLsb'_eq_extractLsb' (show 3 = 0 + (1 + 2) from rfl)]

/-- A command without operand is decoded from the one word whose arg field is 0 (R64). -/
theorem decodePlain_eq_ok_iff (w : CmdWord) (i j : Instr) : decodePlain w i = .ok j ↔ argField w = 0#5 ∧ i = j := by
  unfold decodePlain
  split <;> simp [*]

/-- EDGE is decoded from the words whose bits above the level are 00 and whose line is not 3 (R62). -/
theorem decodeEdge_eq_ok_iff (w : CmdWord) (j : Instr) :
    decodeEdge w = .ok j ↔ edgeZeroField w = 0#2 ∧ lineField w ≠ 3#2 ∧ .edge (lineField w) (levelField w) = j := by
  unfold decodeEdge
  split
  · split <;> simp [*]
  · simp [*]

/-- The word of a well-formed command decodes to it (R61, R71). -/
theorem decode_encode {i : Instr} (h : i.wellFormed = true) : decode (encode i) = .ok i := by
  cases i with
  | nop => rfl
  | rst => rfl
  | cnt => rfl
  | tick => rfl
  | edge l v => decide +revert
  | rdpos ch => decide +revert
  | rdtsu => rfl

/-- A word is determined by its op and arg fields (R60). -/
theorem eq_append_of_fields {w : CmdWord} {op : BitVec 3} {arg : BitVec 5} (hop : (opField w).toNat = op.toNat)
    (harg : argField w = arg) : w = op ++ arg := by
  rw [← opField_append_argField w, BitVec.eq_of_toNat_eq hop, harg]

/-- A word that decodes is the word of the well-formed command it decodes to: the op field picks the row, and the row's
conditions leave no bit of the arg field free but the operands' (R68). -/
theorem wellFormed_and_eq_encode_of_decode {w : CmdWord} {i : Instr} (h : decode w = .ok i) :
    i.wellFormed = true ∧ w = encode i := by
  unfold decode at h
  split at h
  case h_1 hop | h_2 hop | h_3 hop | h_4 hop | h_7 hop =>
    obtain ⟨harg, rfl⟩ := (decodePlain_eq_ok_iff w _ i).mp h
    exact ⟨rfl, eq_append_of_fields hop harg⟩
  case h_5 hop =>
    obtain ⟨hzero, hline, rfl⟩ := (decodeEdge_eq_ok_iff w i).mp h
    refine ⟨bne_iff_ne.mpr hline, eq_append_of_fields hop ?_⟩
    rw [← edge_fields_append w, hzero]
  case h_6 hop =>
    cases h
    exact ⟨rfl, eq_append_of_fields hop rfl⟩
  case h_8 => cases h

/-- The decoder and the encoder are each other's inverse between the legal words and the well-formed commands. -/
theorem decode_eq_ok_iff (w : CmdWord) (i : Instr) : decode w = .ok i ↔ i.wellFormed = true ∧ w = encode i :=
  ⟨wellFormed_and_eq_encode_of_decode, fun ⟨hwf, hw⟩ => hw ▸ decode_encode hwf⟩

/-- A command whose every operand is legal is decoded from its word alone. -/
theorem decode_eq_ok_iff_eq_encode {i : Instr} (hwf : i.wellFormed = true) (w : CmdWord) :
    decode w = .ok i ↔ w = encode i := by
  rw [decode_eq_ok_iff, hwf]
  simp

/-- EDGE's word as a number: `0x80 | (v << 2) | l` (R61, R62). -/
theorem encode_edge_toNat (l : BitVec 2) (v : Bool) : (encode (.edge l v)).toNat = 128 + 4 * v.toNat + l.toNat := by
  decide +revert

/-- RDPOS's word as a number: `0xA0 | ch` (R61, R63). -/
theorem encode_rdpos_toNat (ch : BitVec 5) : (encode (.rdpos ch)).toNat = 160 + ch.toNat := by
  decide +revert

/-- EDGE's row: its words, none of which names line 3 (R61, R62). -/
theorem decode_eq_edge_iff (w : CmdWord) (l : BitVec 2) (v : Bool) :
    decode w = .ok (.edge l v) ↔ l ≠ 3#2 ∧ w.toNat = 128 + 4 * v.toNat + l.toNat := by
  rw [decode_eq_ok_iff, ← encode_edge_toNat, BitVec.toNat_inj]
  simp [Instr.wellFormed]

/-- RDPOS's row: a word for every channel index (R61, R63). -/
theorem decode_eq_rdpos_iff (w : CmdWord) (ch : BitVec 5) :
    decode w = .ok (.rdpos ch) ↔ w.toNat = 160 + ch.toNat := by
  rw [decode_eq_ok_iff_eq_encode rfl, ← encode_rdpos_toNat, BitVec.toNat_inj]

/-- The legal words are counted by running the decoder on all 256 (R61). -/
theorem legal_words_length :
    ((List.range 256).filter (fun n => (decode (BitVec.ofNat 8 n)).toOption.isSome)).length = 43 := by
  decide

/-- Settles O17: each row's words are the encodings of its well-formed commands. -/
theorem opcodeMapHasExactlyFortyThreeWords : Obligations.OpcodeMapHasExactlyFortyThreeWords := by
  unfold Obligations.OpcodeMapHasExactlyFortyThreeWords
  refine ⟨fun w => ?_, legal_words_length⟩
  exact ⟨decode_eq_ok_iff_eq_encode rfl w, decode_eq_ok_iff_eq_encode rfl w, decode_eq_ok_iff_eq_encode rfl w,
    decode_eq_ok_iff_eq_encode rfl w, decode_eq_ok_iff_eq_encode rfl w, decode_eq_edge_iff w, decode_eq_rdpos_iff w⟩

end Sys2Proof
end

section
/-! PROOFS. Time that passes without an EDGE or an RST (40_init_and_timebase.md R84, R85): counts advance the timer, ticks
advance the two tick counters, and nothing else moves but RDATA. -/

namespace Sys2Proof.Machine

/-- The state after `counts` counts of the timebase and `ticks` ticks of the tick source (R82, R83). -/
def State.passTime (counts ticks : Nat) (s : State) : State :=
  { s with
    tcnt := BitVec.ofNat 16 ((s.tcnt.toNat + counts) % 65536)
    itc := BitVec.ofNat 16 (min (s.itc.toNat + ticks) 65535)
    tsu := BitVec.ofNat 16 (min (s.tsu.toNat + ticks) 65535) }

/-- The three counters after time has passed, as numbers (R84). -/
@[simp] theorem passTime_tcnt_toNat (c t : Nat) (s : State) :
    (s.passTime c t).tcnt.toNat = (s.tcnt.toNat + c) % 65536 := by
  simp [State.passTime]

@[simp] theorem passTime_itc_toNat (c t : Nat) (s : State) :
    (s.passTime c t).itc.toNat = min (s.itc.toNat + t) 65535 := by
  simp [State.passTime]

@[simp] theorem passTime_tsu_toNat (c t : Nat) (s : State) :
    (s.passTime c t).tsu.toNat = min (s.tsu.toNat + t) 65535 := by
  simp [State.passTime]

/-- Time leads from `s` to `u` when `u` holds the advanced numbers in the three counters and is `s` in everything else. -/
theorem passTime_eq_of_counters {c t : Nat} {s u : State} (htcnt : (s.tcnt.toNat + c) % 65536 = u.tcnt.toNat)
    (hitc : min (s.itc.toNat + t) 65535 = u.itc.toNat) (htsu : min (s.tsu.toNat + t) 65535 = u.tsu.toNat)
    (hrest : { s with tcnt := u.tcnt, itc := u.itc, tsu := u.tsu } = u) : s.passTime c t = u := by
  unfold State.passTime
  rw [htcnt, hitc, htsu, BitVec.ofNat_toNat, BitVec.ofNat_toNat, BitVec.ofNat_toNat, BitVec.setWidth_eq,
    BitVec.setWidth_eq, BitVec.setWidth_eq, hrest]

/-- No time changes nothing. -/
theorem passTime_zero (s : State) : s.passTime 0 0 = s :=
  passTime_eq_of_counters (by omega) (by omega) (by omega) rfl

/-- Time adds up: the timer modulo 2^16, the tick counters until they saturate. -/
theorem passTime_passTime (c t c' t' : Nat) (s : State) :
    (s.passTime c t).passTime c' t' = s.passTime (c + c') (t + t') := by
  apply passTime_eq_of_counters
  · simp only [passTime_tcnt_toNat]; omega
  · simp only [passTime_itc_toNat]; omega
  · simp only [passTime_tsu_toNat]; omega
  · rfl

/-- CNT's state change is one count (R82). -/
theorem countTimer_eq_passTime (s : State) : s.countTimer = s.passTime 1 0 := by
  symm
  apply passTime_eq_of_counters
  · exact (countTimer_tcnt_toNat s).symm
  · rw [State.countTimer_itc]; omega
  · rw [State.countTimer_tsu]; omega
  · rfl

/-- TICK's state change is one tick (R83). -/
theorem tickGap_tickStaleness_eq_passTime (s : State) : s.tickGap.tickStaleness = s.passTime 0 1 := by
  symm
  apply passTime_eq_of_counters
  · exact Nat.mod_eq_of_lt s.tcnt.isLt
  · exact (tickGap_itc_toNat s).symm
  · exact (tickStaleness_tsu_toNat s.tickGap).symm
  · rfl

/-- What one command that is neither EDGE nor RST does: its own count or tick, if it is one, and a value on RDATA. -/
theorem exec_quiet {i : Instr} (hquiet : isQuiet i = true) (s : State) :
    ∃ r, exec i s = .next ((s.passTime ([i].count .cnt) ([i].count .tick)).drive r) := by
  cases i with
  | edge l v => cases hquiet
  | rst => cases hquiet
  | cnt => exact ⟨0, by rw [exec_cnt, countTimer_eq_passTime]; rfl⟩
  | tick => exact ⟨0, by rw [exec_tick, tickGap_tickStaleness_eq_passTime]; rfl⟩
  | nop => exact ⟨0, by simp [passTime_zero]⟩
  | rdpos ch => exact ⟨s.readChannel ch, by simp [passTime_zero]⟩
  | rdtsu => exact ⟨s.readStaleness, by simp [passTime_zero]⟩

/-- A sequence with no EDGE and no RST lets its counts and its ticks pass and changes nothing else but RDATA (R84, R85). -/
theorem execSeq_quiet {is : List Instr} (hquiet : ∀ i ∈ is, isQuiet i = true) (s : State) :
    ∃ r, execSeq is s = .next ((s.passTime (is.count .cnt) (is.count .tick)).drive r) := by
  induction is generalizing s with
  | nil => exact ⟨s.rdata, by rw [List.count_nil, List.count_nil, passTime_zero]; rfl⟩
  | cons i is ih =>
    obtain ⟨r, hstep⟩ := exec_quiet (hquiet i List.mem_cons_self) s
    obtain ⟨r', hrest⟩ := ih (fun j hj => hquiet j (List.mem_cons_of_mem i hj))
      ((s.passTime ([i].count .cnt) ([i].count .tick)).drive r)
    have hsplit (j : Instr) : (i :: is).count j = [i].count j + is.count j := List.count_append (l₁ := [i])
    refine ⟨r', ?_⟩
    rw [execSeq_cons hstep, hrest, hsplit, hsplit, ← passTime_passTime]
    rfl

/-- CNT and TICK are neither EDGE nor RST. -/
theorem isQuiet_of_isStrobe {i : Instr} (h : isStrobe i = true) : isQuiet i = true := by
  rcases (isStrobe_iff i).mp h with rfl | rfl <;> rfl

/-- A strobe command drives 0 (R70). -/
theorem exec_strobe_rdata {i : Instr} (hi : isStrobe i = true) {s t : State} (h : exec i s = .next t) : t.rdata = 0 := by
  rcases (isStrobe_iff i).mp hi with rfl | rfl <;> cases h <;> rfl

/-- A sequence of strobe commands leaves 0 on RDATA, and an empty one what stood there. -/
theorem execSeq_strobes_rdata {is : List Instr} (hall : ∀ i ∈ is, isStrobe i = true) {s t : State}
    (h : execSeq is s = .next t) : t.rdata = if is = [] then s.rdata else 0 := by
  induction is generalizing s with
  | nil => cases h; rfl
  | cons i is ih =>
    obtain ⟨u, hu⟩ := exec_completes i s
    rw [execSeq_cons hu] at h
    have hrest := ih (fun j hj => hall j (List.mem_cons_of_mem i hj)) h
    rw [exec_strobe_rdata (hall i List.mem_cons_self) hu, ite_self] at hrest
    rw [hrest, if_neg (List.cons_ne_nil i is)]

/-- A sequence that is as long as its counts and ticks together holds nothing else. -/
theorem isStrobe_of_length_eq {is : List Instr} (h : is.length = is.count .cnt + is.count .tick) :
    ∀ i ∈ is, isStrobe i = true :=
  List.countP_eq_length.mp (by rw [countP_isStrobe, h])

/-- Settles O41: a sequence of counts and ticks is quiet, so it lets its counts and ticks pass in whatever order they stand,
and its RDATA is the last strobe command's. -/
theorem cntAndTickCommute : Obligations.CntAndTickCommute := by
  unfold Obligations.CntAndTickCommute
  rintro _ _ is s rfl rfl hlength
  have hall := isStrobe_of_length_eq hlength
  obtain ⟨r, hrun⟩ := execSeq_quiet (fun i hi => isQuiet_of_isStrobe (hall i hi)) s
  have hr : r = if is = [] then s.rdata else 0 := execSeq_strobes_rdata hall hrun
  rw [hrun, hr]
  rfl

/-- Settles O42: a quiet sequence is a passing of time, which leaves POS, IDX and LVL and adds the ticks to TSU. -/
theorem ticksAloneNeverChangePositions : Obligations.TicksAloneNeverChangePositions := by
  unfold Obligations.TicksAloneNeverChangePositions
  intro is s hquiet
  obtain ⟨r, hrun⟩ := execSeq_quiet hquiet s
  refine ⟨_, hrun, rfl, rfl, rfl, ?_⟩
  rw [State.drive_tsu, passTime_tsu_toNat]

end Sys2Proof.Machine
end

section
/-! PROOFS. The initialisation and timebase commands NOP, RST, CNT and TICK, one whole effect each
(40_init_and_timebase.md R80 to R83). -/

namespace Sys2Proof.Machine

/-- EDGE does not read RDATA (R100). -/
theorem takeEdge_drive (v : ReadData) (s : State) : (s.drive v).takeEdge = s.takeEdge.drive v := by
  have h := takeEdge_frame s s.lvl s.inLine v s.inputs
  rw [State.drive, State.drive, h]
  apply State.ext <;> simp

/-- No command reads RDATA, and each drives its own, so what stood there before is lost without effect (R70). -/
theorem exec_drive (i : Instr) (v : ReadData) (s : State) : exec i (s.drive v) = exec i s := by
  cases i with
  | edge l v' => rw [exec_edge, exec_edge, takeEdge_drive]; rfl
  | nop => rfl
  | rst => rfl
  | cnt => rfl
  | tick => rfl
  | rdpos ch => rfl
  | rdtsu => rfl

/-- Settles O1: no command reads the RDATA that NOP drives. -/
theorem nopDrivesZeroAndIsTransparent : Obligations.NopDrivesZeroAndIsTransparent := by
  unfold Obligations.NopDrivesZeroAndIsTransparent
  exact ⟨decode_encode (i := .nop) rfl, exec_nop, fun i s => exec_drive i 0 s⟩

/-- Sampling a line at the level it stands at leaves the port. -/
theorem setLine_self (l : Fin 3) (s : State) : s.setLine l s.inLine[l] = s := by
  apply State.ext <;> simp

/-- A line level that the front end has already seen is no transition and issues no EDGE (R154). -/
theorem step_of_lineLevel_seen {s : State} {l : Fin 3} {v : Bool} {rest : List Input}
    (hinputs : s.inputs = .lineLevel l v :: rest) (hseen : s.lvl[l] = v) :
    step s = .next ((s.withInputs rest).setLine l v) := by
  rw [step_of_inputs_cons hinputs, State.takeInput, State.sampleLine]
  exact if_pos hseen

/-- A line that stands at its reference bit's level causes nothing but its own arrival to be taken (R154). -/
theorem step_of_lineLevel_unchanged {s : State} (htrack : s.ReferencesTrackLines) (l : Fin 3) (rest : List Input) :
    step (s.withInputs (.lineLevel l s.inLine[l] :: rest)) = .next (s.withInputs rest) := by
  have hseen : s.lvl[l] = s.inLine[l] := congrArg (·[l]) htrack
  calc step (s.withInputs (.lineLevel l s.inLine[l] :: rest))
      = .next ((s.withInputs rest).setLine l s.inLine[l]) := step_of_lineLevel_seen rfl hseen
    _ = .next (s.withInputs rest) := congrArg Host.Outcome.next (setLine_self l (s.withInputs rest))

/-- Settles O2: RST's state change is the literal state, and a second RST, a count, a tick and a sample of a line run from
it. -/
theorem rstZeroesRegistersAndRearmsLines : Obligations.RstZeroesRegistersAndRearmsLines := by
  unfold Obligations.RstZeroesRegistersAndRearmsLines
  refine ⟨decode_encode (i := .rst) rfl, fun s => ⟨s.initialise.drive 0, exec_rst s, rfl, rfl, rfl, rfl, ?_⟩⟩
  exact step_of_lineLevel_unchanged rfl

/-- A pulse of `cnt_strobe` is one CNT (R82, R160). -/
theorem step_of_cntStrobe {s : State} {rest : List Input} (h : s.inputs = .cntStrobe :: rest) :
    step s = exec .cnt (s.withInputs rest) := by
  rw [step_of_inputs_cons h]
  exact runWord_of_decode (decode_encode (i := .cnt) rfl) _

/-- A pulse of `tick_strobe` is one TICK (R83, R160). -/
theorem step_of_tickStrobe {s : State} {rest : List Input} (h : s.inputs = .tickStrobe :: rest) :
    step s = exec .tick (s.withInputs rest) := by
  rw [step_of_inputs_cons h]
  exact runWord_of_decode (decode_encode (i := .tick) rfl) _

/-- The timer wraps with no flag (R82). -/
theorem countTimer_of_max {s : State} (h : s.tcnt = 0xFFFF#16) : s.countTimer = s.clearTimer := by
  rw [State.countTimer, h]
  rfl

/-- Settles O3: the command's whole effect, its wrap, and the timebase's port. -/
theorem cntAdvancesTimerModuloTwoToSixteen : Obligations.CntAdvancesTimerModuloTwoToSixteen := by
  unfold Obligations.CntAdvancesTimerModuloTwoToSixteen
  refine ⟨decode_encode (i := .cnt) rfl, exec_cnt, ?_, fun s rest => step_of_cntStrobe⟩
  intro s hmax
  rw [exec_cnt, countTimer_of_max hmax]
  rfl

/-- The two tick counters at 0xFFFF stay there (R83). -/
theorem tickGap_tickStaleness_of_max {s : State} (hitc : s.itc = 0xFFFF#16) (htsu : s.tsu = 0xFFFF#16) :
    s.tickGap.tickStaleness = s := by
  rw [tickGap_tickStaleness_eq_passTime]
  apply passTime_eq_of_counters
  · omega
  · rw [hitc]; rfl
  · rw [htsu]; rfl
  · rfl

/-- Settles O4: the command's whole effect, its saturation, and the tick source's port. -/
theorem tickSaturatesBothCounters : Obligations.TickSaturatesBothCounters := by
  unfold Obligations.TickSaturatesBothCounters
  refine ⟨decode_encode (i := .tick) rfl, exec_tick, ?_, fun s rest => step_of_tickStrobe⟩
  intro s hitc htsu
  rw [exec_tick, tickGap_tickStaleness_of_max hitc htsu]
  rfl

end Sys2Proof.Machine
end

section
/-! PROOFS. The mapping of an elapsed value to a position (41_edge.md R107, R108, R115): its rounding, that it is monotone, and
where it is flat. -/

namespace Sys2Proof.Machine

/-- The magnitude of R10's quotient is the quotient of the magnitudes, rounded down. -/
theorem natAbs_tdiv_eq_div (a : Int) (b : Nat) : (tdiv a b).natAbs = a.natAbs / b := by
  rw [tdiv_eq_int_tdiv, Int.natAbs_tdiv]
  rfl

/-- R10's quotient never has the sign opposite to its dividend's. -/
theorem tdiv_mul_self_nonneg (a : Int) (b : Nat) : 0 ≤ tdiv a b * a := by
  have hproduct : tdiv a b * a = (a.natAbs : Int) * ((a.natAbs / b : Nat) : Int) := by
    rw [tdiv, mul_right_comm, Int.sign_mul_self_eq_natAbs]
  rw [hproduct]
  positivity

/-- R10's quotient is the one rounded toward zero: its multiple lies within the dividend's magnitude, the next one does not,
and the signs agree. -/
theorem tdiv_rounds_toward_zero (a : Int) {b : Nat} (hb : 0 < b) :
    (tdiv a b).natAbs * b ≤ a.natAbs ∧ a.natAbs < ((tdiv a b).natAbs + 1) * b ∧ 0 ≤ tdiv a b * a := by
  rw [natAbs_tdiv_eq_div]
  exact ⟨Nat.div_mul_le_self _ _, Nat.lt_mul_of_div_lt (Nat.lt_succ_self _) hb, tdiv_mul_self_nonneg a b⟩

/-- The product of R108 over the clamp range. -/
theorem scaled_offset_bounds {ec : Nat} (hlo : 1000 ≤ ec) (hhi : ec ≤ 2000) :
    -127500 ≤ ((ec : Int) - 1500) * 255 ∧ ((ec : Int) - 1500) * 255 ≤ 127500 := by
  omega

/-- R108's formula with R7's values. -/
theorem mapClamped_hw (ec : Nat) : mapClamped Config.hw ec = tdiv (((ec : Int) - 1500) * 255) 1000 := rfl

/-- Settles O6: the product is within bounds over the clamp range, `tdiv` rounds toward zero, and the sample table is
evaluated. -/
theorem mappingRoundsTowardZero : Obligations.MappingRoundsTowardZero := by
  unfold Obligations.MappingRoundsTowardZero
  refine ⟨?_, by decide, by decide⟩
  rintro ec hlo hhi _ _ rfl rfl
  obtain ⟨hmin, hmax⟩ := scaled_offset_bounds hlo hhi
  rw [mapClamped_hw]
  exact ⟨hmin, hmax, by omega, by omega, tdiv_rounds_toward_zero _ (by decide)⟩

/-- A larger elapsed value never maps to a smaller position, under any parameters (R115). -/
theorem positionOf_mono (c : Config) {e e' : Nat} (h : e ≤ e') : positionOf c e ≤ positionOf c e' := by
  have hclamp : (clamp e c.clampLo c.clampHi : Int) ≤ clamp e' c.clampLo c.clampHi :=
    Int.ofNat_le.mpr (clamp_mono _ _ h)
  exact tdiv_mono _ (mul_le_mul_of_nonneg_right (sub_le_sub_right hclamp _) (Int.natCast_nonneg _))

/-- Between two elapsed values with one position the mapping is flat (R115). -/
theorem positionOf_flat {c : Config} {lo hi e : Nat} {p : Int} (hlo : positionOf c lo = p) (hhi : positionOf c hi = p)
    (hloe : lo ≤ e) (hehi : e ≤ hi) : positionOf c e = p :=
  le_antisymm (hhi ▸ positionOf_mono c hehi) (hlo ▸ positionOf_mono c hloe)

/-- Settles O8: the mapping is monotone, and each flat part has one position at its two ends. -/
theorem mappingIsMonotoneWithSaturatedEnds : Obligations.MappingIsMonotoneWithSaturatedEnds := by
  unfold Obligations.MappingIsMonotoneWithSaturatedEnds
  refine ⟨fun e₁ e₂ _ hle _ => positionOf_mono _ hle, fun e hlo hhi => ?_, fun e hlo hhi => ?_, fun e hlo hhi => ?_⟩
  · exact positionOf_flat (lo := 801) (hi := 1001) (by decide) (by decide) hlo hhi
  · exact positionOf_flat (lo := 1999) (hi := 2199) (by decide) (by decide) hlo (Nat.le_of_lt_succ hhi)
  · exact positionOf_flat (lo := 1497) (hi := 1503) (by decide) (by decide) hlo hhi

end Sys2Proof.Machine
end

section
/-! PROOFS. The five kinds of EDGE (41_edge.md R114): the condition on entry that decides each, and what each does to the
state. -/

namespace Sys2Proof.Machine

/-- The condition column of R114's table, with R7's numbers. -/
def EntryCondition : EdgeKind → State → Prop
  | .resync, s => 50 ≤ s.itc.toNat
  | .completedCycle, s => s.itc.toNat < 50 ∧ s.idx.toNat = 3
  | .debounced, s => s.itc.toNat < 50 ∧ s.idx.toNat < 3 ∧ s.tcnt.toNat < 400
  | .stored, s => s.itc.toNat < 50 ∧ s.idx.toNat < 3 ∧ 800 < s.tcnt.toNat ∧ s.tcnt.toNat < 2200
  | .held, s => s.itc.toNat < 50 ∧ s.idx.toNat < 3 ∧
      ((400 ≤ s.tcnt.toNat ∧ s.tcnt.toNat ≤ 800) ∨ 2200 ≤ s.tcnt.toNat)

/-- The kind of an EDGE as the tests of R100 in their order, with R7's numbers. -/
theorem edgeKind_eq_ite (s : State) : s.edgeKind =
    if 50 ≤ s.itc.toNat then .resync
    else if s.idx.toNat < 3 then
      if s.tcnt.toNat < 400 then .debounced
      else if 800 < s.tcnt.toNat ∧ s.tcnt.toNat < 2200 then .stored
      else .held
    else .completedCycle := by
  simp only [State.edgeKind, resyncDue_iff, slotOpen_iff, tooClose_iff, inWindow_hw_iff, State.elapsed]

/-- Every state meets the condition of the kind it decides. -/
theorem entryCondition_edgeKind (s : State) : EntryCondition s.edgeKind s := by
  have hidx : s.idx.toNat < 4 := s.idx.isLt
  rw [edgeKind_eq_ite]
  split_ifs <;> simp only [EntryCondition] <;> omega

/-- A state that meets a kind's condition decides that kind. -/
theorem edgeKind_eq_of_entryCondition {k : EdgeKind} {s : State} (h : EntryCondition k s) : s.edgeKind = k := by
  rw [edgeKind_eq_ite]
  cases k with
  | resync => exact if_pos h
  | completedCycle =>
    obtain ⟨hitc, hidx⟩ := h
    rw [if_neg (by omega), if_neg (by omega)]
  | debounced =>
    obtain ⟨hitc, hidx, htcnt⟩ := h
    rw [if_neg (by omega), if_pos hidx, if_pos htcnt]
  | stored =>
    obtain ⟨hitc, hidx, hwindow⟩ := h
    rw [if_neg (by omega), if_pos hidx, if_neg (by omega), if_pos hwindow]
  | held =>
    obtain ⟨hitc, hidx, houtside⟩ := h
    rw [if_neg (by omega), if_pos hidx, if_neg (by omega), if_neg (by omega)]

/-- R114's table decides the kind: exactly one row's condition holds. -/
theorem edgeKind_eq_iff (k : EdgeKind) (s : State) : s.edgeKind = k ↔ EntryCondition k s :=
  ⟨fun h => h ▸ entryCondition_edgeKind s, edgeKind_eq_of_entryCondition⟩

/-- What an EDGE of each kind does (R101, R102, R104, R105). -/
def EdgeKind.effect : EdgeKind → State → State
  | .resync, s => s.resynchronise
  | .completedCycle, s => s.clearGap
  | .debounced, s => s
  | .stored, s => s.acceptEdge.clearGap
  | .held, s => s.acceptEdge.clearGap

/-- EDGE does what its kind says (R100, R114). -/
theorem takeEdge_eq_effect (s : State) : s.takeEdge = s.edgeKind.effect s := by
  rcases takeEdge_cases s with ⟨_, hkind, heffect⟩ | ⟨_, _, hkind, heffect⟩ | ⟨_, _, _, hkind, heffect⟩ |
    ⟨_, _, _, _, hkind, heffect⟩ | ⟨_, _, _, _, hkind, heffect⟩ <;> rw [hkind, heffect] <;> rfl

/-- EDGE of a known kind does what that kind says, and drives 0. -/
theorem exec_edge_of_kind {k : EdgeKind} {s : State} (h : s.edgeKind = k) (l : BitVec 2) (v : Bool) :
    exec (.edge l v) s = .next ((k.effect s).drive 0) := by
  rw [exec_edge, takeEdge_eq_effect, h]

/-- An accepted edge is a stored or a held one (R105). -/
theorem accepted_iff (k : EdgeKind) : k.accepted = true ↔ k = .stored ∨ k = .held := by
  cases k <;> simp [EdgeKind.accepted]

/-- An accepted edge finds IDX below 3, a slot that waits for it (R103). -/
theorem idx_lt_three_of_accepted {s : State} (h : s.edgeKind.accepted = true) : s.idx.toNat < 3 := by
  rcases (accepted_iff _).mp h with hkind | hkind
  · obtain ⟨_, hidx, _⟩ := (edgeKind_eq_iff .stored s).mp hkind
    exact hidx
  · obtain ⟨_, hidx, _⟩ := (edgeKind_eq_iff .held s).mp hkind
    exact hidx

/-- A stored edge's elapsed value is in the window (R106). -/
theorem inWindow_of_stored {s : State} (h : s.edgeKind = .stored) : inWindow Config.hw s.elapsed = true := by
  obtain ⟨_, _, hwindow⟩ := (edgeKind_eq_iff .stored s).mp h
  exact (inWindow_hw_iff _).mpr hwindow

/-- A held edge's elapsed value is outside it (R106). -/
theorem not_inWindow_of_held {s : State} (h : s.edgeKind = .held) : ¬ inWindow Config.hw s.elapsed = true := by
  obtain ⟨_, _, houtside⟩ := (edgeKind_eq_iff .held s).mp h
  rw [inWindow_hw_iff, State.elapsed]
  omega

/-- The advance that reaches 3 starts from 2 (R111). -/
theorem idx_succ_toNat_eq_three_iff (i : SlotIndex) : (i + 1).toNat = 3 ↔ i = 2 := by
  decide +revert

/-- An in-window accepted edge writes the slot IDX names (R110), and advances the sequencer (R111). -/
theorem acceptEdge_of_inWindow {s : State} (hidx : s.idx.toNat < 3) (h : inWindow Config.hw s.elapsed = true) :
    s.acceptEdge = { s with
      pos := s.pos.set s.idx.toNat (BitVec.ofInt 8 (positionOf Config.hw s.elapsed)) hidx
      idx := s.idx + 1, tsu := if s.idx = 2 then 0 else s.tsu, tcnt := 0 } := by
  have hset (p : Position) : s.pos.setIfInBounds s.idx.toNat p = s.pos.set s.idx.toNat p hidx := by
    apply Vector.ext
    intro i hi
    rw [Vector.getElem_setIfInBounds, Vector.getElem_set]
  rw [acceptEdge_eq, if_pos h, hset]
  simp only [idx_succ_toNat_eq_three_iff]

/-- An out-of-window accepted edge writes no slot (R110), and advances the sequencer all the same (R111). -/
theorem acceptEdge_of_not_inWindow {s : State} (h : ¬ inWindow Config.hw s.elapsed = true) :
    s.acceptEdge = { s with idx := s.idx + 1, tsu := if s.idx = 2 then 0 else s.tsu, tcnt := 0 } := by
  rw [acceptEdge_eq, if_neg h]
  simp only [idx_succ_toNat_eq_three_iff]

/-- The position of an elapsed value with R7's values (R107, R108), by the library's division truncated toward zero. -/
theorem positionOf_hw (e : Nat) :
    positionOf Config.hw e = Int.tdiv ((((min (max e 1000) 2000 : Nat) : Int) - 1500) * 255) 1000 :=
  tdiv_eq_int_tdiv _ _

/-- A stored EDGE's whole effect (R114). -/
theorem exec_edge_stored {s : State} (hidx : s.idx.toNat < 3) (h : s.edgeKind = .stored) (l : BitVec 2) (v : Bool) :
    exec (.edge l v) s = .next { s with
      pos := s.pos.set s.idx.toNat
        (BitVec.ofInt 8 (Int.tdiv ((((min (max s.tcnt.toNat 1000) 2000 : Nat) : Int) - 1500) * 255) 1000)) hidx
      idx := s.idx + 1, itc := 0, tsu := if s.idx = 2 then 0 else s.tsu, tcnt := 0, rdata := 0 } := by
  rw [exec_edge_of_kind h, EdgeKind.effect, acceptEdge_of_inWindow hidx (inWindow_of_stored h), positionOf_hw]
  rfl

/-- A held EDGE's whole effect (R114). -/
theorem exec_edge_held {s : State} (h : s.edgeKind = .held) (l : BitVec 2) (v : Bool) :
    exec (.edge l v) s = .next { s with
      idx := s.idx + 1, itc := 0, tsu := if s.idx = 2 then 0 else s.tsu, tcnt := 0, rdata := 0 } := by
  rw [exec_edge_of_kind h, EdgeKind.effect, acceptEdge_of_not_inWindow (not_inWindow_of_held h)]
  rfl

/-- Settles O5: R114's table decides the kind, and the kind decides the effect. -/
theorem edgeHasExactlyOneOfFiveEffects : Obligations.EdgeHasExactlyOneOfFiveEffects := by
  unfold Obligations.EdgeHasExactlyOneOfFiveEffects
  constructor
  · intro s
    exact ⟨edgeKind_eq_iff .resync s, edgeKind_eq_iff .completedCycle s, edgeKind_eq_iff .debounced s,
      edgeKind_eq_iff .stored s, edgeKind_eq_iff .held s⟩
  · intro l v s
    exact ⟨fun h => exec_edge_of_kind h l v, fun h => exec_edge_of_kind h l v, fun h => exec_edge_of_kind h l v,
      fun hidx h => exec_edge_stored hidx h l v, fun h => exec_edge_held h l v⟩

end Sys2Proof.Machine
end

section
/-! PROOFS. Sequences of commands with EDGE among them: the line and the level are never read, and the slot is the number of
accepted edges (41_edge.md R111, R113, R117). -/

namespace Sys2Proof.Machine

/-- EDGE reads neither its line nor its level (R113). -/
theorem exec_edge_congr (l l' : BitVec 2) (v v' : Bool) (s : State) : exec (.edge l v) s = exec (.edge l' v') s :=
  (exec_edge l v s).trans (exec_edge l' v' s).symm

/-- Two commands that are equal but for an EDGE's line and level. -/
def SameUpToLine (i j : Instr) : Prop := i = j ∨ (isEdge i = true ∧ isEdge j = true)

/-- An EDGE command has a line and a level. -/
theorem isEdge_iff (i : Instr) : isEdge i = true ↔ ∃ l v, i = .edge l v := by
  cases i <;> simp [isEdge]

/-- Commands that differ only in line or level have the same effect (R113). -/
theorem exec_eq_of_sameUpToLine {i j : Instr} (h : SameUpToLine i j) (s : State) : exec i s = exec j s := by
  rcases h with rfl | ⟨hi, hj⟩
  · rfl
  · obtain ⟨l, v, rfl⟩ := (isEdge_iff i).mp hi
    obtain ⟨l', v', rfl⟩ := (isEdge_iff j).mp hj
    exact exec_edge_congr l l' v v' s

/-- Sequences that differ only in lines or levels cannot be told apart (R113). -/
theorem execSeq_readDataOf_eq_of_sameUpToLine {is js : List Instr} (h : List.Forall₂ SameUpToLine is js) (s : State) :
    execSeq is s = execSeq js s ∧ readDataOf is s = readDataOf js s := by
  induction h generalizing s with
  | nil => exact ⟨rfl, rfl⟩
  | @cons i j is js hij _ ih =>
    obtain ⟨t, ht⟩ := exec_completes j s
    have hi : exec i s = .next t := (exec_eq_of_sameUpToLine hij s).trans ht
    obtain ⟨hstate, hread⟩ := ih t
    rw [execSeq_cons hi, execSeq_cons ht, readDataOf_cons hi, readDataOf_cons ht, hstate, hread]
    exact ⟨rfl, rfl⟩

/-- Accepted edges of a sequence add up over its pieces. -/
theorem acceptedIn_append {is : List Instr} {s t : State} (h : execSeq is s = .next t) (js : List Instr) :
    acceptedIn (is ++ js) s = acceptedIn is s + acceptedIn js t := by
  rw [acceptedIn, edgeKindsOf_append h, List.countP_append]
  rfl

/-- One EDGE takes one edge, of the kind the state decides. -/
theorem edgeKindsOf_edge (l : BitVec 2) (v : Bool) (s : State) : edgeKindsOf [.edge l v] s = [s.edgeKind] := rfl

/-- One EDGE is one accepted edge, or none. -/
theorem acceptedIn_edge (l : BitVec 2) (v : Bool) (s : State) :
    acceptedIn [.edge l v] s = if s.edgeKind.accepted then 1 else 0 := List.countP_singleton

/-- A command other than EDGE and RST is one that lets time pass. -/
theorem isQuiet_iff (i : Instr) : isQuiet i = true ↔ i ≠ .rst ∧ isEdge i = false := by
  cases i <;> simp [isQuiet, isEdge]

/-- A quiet command takes no edge. -/
theorem edgeKindsOf_quiet {i : Instr} (h : isQuiet i = true) (s : State) : edgeKindsOf [i] s = [] := by
  obtain ⟨t, ht⟩ := exec_completes i s
  obtain ⟨_, hedge⟩ := (isQuiet_iff i).mp h
  rw [edgeKindsOf_cons ht, hedge]
  rfl

/-- A slot below 3 has a next one (R111). -/
theorem idx_succ_toNat {i : SlotIndex} (h : i.toNat < 3) : (i + 1).toNat = i.toNat + 1 := by
  decide +revert

/-- An accepted edge's whole effect, whatever its elapsed value (R105). -/
theorem takeEdge_of_accepted {s : State} (h : s.edgeKind.accepted = true) : s.takeEdge = s.acceptEdge.clearGap := by
  rcases (accepted_iff _).mp h with hkind | hkind <;> rw [takeEdge_eq_effect, hkind] <;> rfl

/-- Where an EDGE that is no resync edge leaves IDX: one further for an accepted edge, else where it was (R111). -/
theorem takeEdge_idx_toNat {s : State} (h : s.edgeKind ≠ .resync) :
    s.takeEdge.idx.toNat = s.idx.toNat + if s.edgeKind.accepted then 1 else 0 := by
  by_cases haccepted : s.edgeKind.accepted = true
  · rw [if_pos haccepted, takeEdge_of_accepted haccepted, State.clearGap_idx, acceptEdge_eq]
    exact idx_succ_toNat (idx_lt_three_of_accepted haccepted)
  · rw [if_neg haccepted, takeEdge_eq_effect]
    cases hkind : s.edgeKind with
    | resync => exact absurd hkind h
    | completedCycle => rfl
    | debounced => rfl
    | stored => exact absurd ((accepted_iff _).mpr (.inl hkind)) haccepted
    | held => exact absurd ((accepted_iff _).mpr (.inr hkind)) haccepted

/-- A command that is neither RST nor a resync edge advances IDX by the edges it accepts. -/
theorem exec_idx_toNat {i : Instr} {s t : State} (hrst : i ≠ .rst) (hresync : EdgeKind.resync ∉ edgeKindsOf [i] s)
    (h : exec i s = .next t) : t.idx.toNat = s.idx.toNat + acceptedIn [i] s := by
  by_cases hedge : isEdge i = true
  · obtain ⟨l, v, rfl⟩ := (isEdge_iff i).mp hedge
    rw [edgeKindsOf_edge, List.mem_singleton] at hresync
    cases h
    rw [acceptedIn_edge]
    exact takeEdge_idx_toNat (Ne.symm hresync)
  · have hquiet : isQuiet i = true := (isQuiet_iff i).mpr ⟨hrst, Bool.eq_false_of_not_eq_true hedge⟩
    obtain ⟨r, hr⟩ := exec_quiet hquiet s
    cases hr.symm.trans h
    rw [acceptedIn, edgeKindsOf_quiet hquiet]
    rfl

/-- Over a sequence without RST and resync edge, IDX counts the accepted edges (R113). -/
theorem execSeq_idx_toNat {is : List Instr} {s t : State} (hrst : Instr.rst ∉ is)
    (hresync : EdgeKind.resync ∉ edgeKindsOf is s) (h : execSeq is s = .next t) :
    t.idx.toNat = s.idx.toNat + acceptedIn is s := by
  induction is generalizing s with
  | nil =>
    cases h
    rfl
  | cons i is ih =>
    obtain ⟨u, hu⟩ := exec_completes i s
    have hfirst : execSeq [i] s = .next u := execSeq_cons hu []
    have hsplit : edgeKindsOf (i :: is) s = edgeKindsOf [i] s ++ edgeKindsOf is u := edgeKindsOf_append hfirst is
    have hcount : acceptedIn (i :: is) s = acceptedIn [i] s + acceptedIn is u := acceptedIn_append hfirst is
    rw [List.mem_cons, not_or] at hrst
    rw [hsplit, List.mem_append, not_or] at hresync
    rw [execSeq_cons hu] at h
    obtain ⟨hi, his⟩ := hrst
    obtain ⟨hresyncFirst, hresyncRest⟩ := hresync
    rw [ih his hresyncRest h, exec_idx_toNat (Ne.symm hi) hresyncFirst hu, hcount, Nat.add_assoc]

/-- Settles O9: no step of EDGE reads the line or the level, and each accepted edge, and no other, moves IDX by one. -/
theorem edgeIgnoresLineAndLevel : Obligations.EdgeIgnoresLineAndLevel := by
  unfold Obligations.EdgeIgnoresLineAndLevel
  exact ⟨exec_edge_congr, fun _ _ s h => execSeq_readDataOf_eq_of_sameUpToLine h s, fun _ _ _ => execSeq_idx_toNat⟩

/-- An accepted edge in the last slot moves IDX to 3 and clears TSU (R111). -/
theorem takeEdge_completes {s : State} (hidx : s.idx = 2) (h : s.edgeKind.accepted = true) :
    s.takeEdge.idx = 3 ∧ s.takeEdge.tsu = 0 := by
  rw [takeEdge_of_accepted h, State.clearGap_idx, State.clearGap_tsu, acceptEdge_eq, hidx]
  exact ⟨rfl, rfl⟩

/-- Settles O11: two accepted edges lead from IDX = 0 to the last slot, and the third completes the cycle. -/
theorem thirdAcceptedEdgeCompletesCycle : Obligations.ThirdAcceptedEdgeCompletesCycle := by
  unfold Obligations.ThirdAcceptedEdgeCompletesCycle
  intro is l v s t hidx hrst hresync htwo hrun haccepted
  have hslot : t.idx = 2 := by
    apply BitVec.eq_of_toNat_eq
    rw [execSeq_idx_toNat hrst hresync hrun, hidx, htwo]
    rfl
  obtain ⟨hthree, hcleared⟩ := takeEdge_completes hslot haccepted
  refine ⟨t.takeEdge.drive 0, exec_edge l v t, hthree, hcleared, ?_⟩
  rw [acceptedIn_append hrun, acceptedIn_edge, if_pos haccepted, htwo]

end Sys2Proof.Machine
end

section
/-! PROOFS. The accessor commands: what each reads (42_accessors.md R140, R141), and that a run of them put anywhere into a
sequence is seen in no other command's read data and in no register (R142). -/

namespace Sys2Proof.Machine

/-- RDTSU's read data is TSU itself: both have 16 bits (R7, R141). -/
theorem readStaleness_eq_tsu (s : State) : s.readStaleness = s.tsu := BitVec.setWidth_eq s.tsu

/-- Settles O14: the word is RDTSU's, and TSU fills RDATA. -/
theorem rdtsuReadsStalenessCounter : Obligations.RdtsuReadsStalenessCounter := by
  unfold Obligations.RdtsuReadsStalenessCounter
  refine ⟨decode_encode (i := .rdtsu) rfl, fun s => ?_⟩
  rw [exec_rdtsu, readStaleness_eq_tsu]
  rfl

/-- RDPOS's word as the encoding writes it (R61, R63). -/
theorem encode_rdpos_eq_or (ch : BitVec 5) : encode (.rdpos ch) = 0xA0#8 ||| ch.setWidth 8 := by
  decide +revert

/-- An index within the position file reads its entry. -/
theorem posAt_of_lt {i : Nat} (h : i < 3) (s : State) : s.posAt i = s.pos[i] := by
  rw [State.posAt, Vector.getElem?_eq_getElem h, Option.getD_some]

/-- A channel below N reads its position, sign-extended (R45, R140). -/
theorem readChannel_of_lt {ch : BitVec 5} (h : ch.toNat < 3) (s : State) :
    s.readChannel ch = BitVec.ofInt 16 (s.pos[ch.toNat]).toInt := by
  have hbelow : s.readChannel ch = (s.posAt ch.toNat).signExtend 16 := if_pos h
  rw [hbelow, posAt_of_lt h, BitVec.signExtend]

/-- Any other channel reads NEUTRAL, which is 0 (R45, R140). -/
theorem readChannel_of_ge {ch : BitVec 5} (h : 3 ≤ ch.toNat) (s : State) : s.readChannel ch = 0 :=
  if_neg (Nat.not_lt.mpr h)

/-- Settles O13: the word is RDPOS's for every channel index, and the channel map has its two sides at N = 3. -/
theorem rdposReadsChannelMap : Obligations.RdposReadsChannelMap := by
  unfold Obligations.RdposReadsChannelMap
  refine ⟨fun ch => ?_, fun ch s h => ?_, fun ch s h => ?_⟩
  · rw [← encode_rdpos_eq_or]
    exact decode_encode rfl
  · rw [exec_rdpos, readChannel_of_lt h]
    rfl
  · rw [exec_rdpos, readChannel_of_ge h]
    rfl

/-- Every sequence of commands answers a next state (R150). -/
theorem execSeq_completes (is : List Instr) (s : State) : ∃ t : State, execSeq is s = .next t := by
  induction is generalizing s with
  | nil => exact ⟨s, rfl⟩
  | cons i is ih =>
    obtain ⟨t, ht⟩ := exec_completes i s
    rw [execSeq_cons ht]
    exact ih t

/-- Each command of a sequence drives one value (R70). -/
theorem length_readDataOf (is : List Instr) (s : State) : (readDataOf is s).length = is.length := by
  induction is generalizing s with
  | nil => rfl
  | cons i is ih =>
    obtain ⟨t, ht⟩ := exec_completes i s
    rw [readDataOf_cons ht, List.length_cons, List.length_cons, ih]

/-- Where the first piece ends, the second begins: the read data. -/
theorem readDataOf_append {as : List Instr} {s t : State} (h : execSeq as s = .next t) (bs : List Instr) :
    readDataOf (as ++ bs) s = readDataOf as s ++ readDataOf bs t := by
  induction as generalizing s with
  | nil =>
    cases h
    rfl
  | cons i as ih =>
    obtain ⟨u, hu⟩ := exec_completes i s
    rw [execSeq_cons hu] at h
    rw [List.cons_append, readDataOf_cons hu, readDataOf_cons hu, ih h, List.cons_append]

/-- A sequence's read data does not depend on what stood on RDATA before it (R70). -/
theorem readDataOf_drive (is : List Instr) (v : ReadData) (s : State) : readDataOf is (s.drive v) = readDataOf is s := by
  cases is with
  | nil => rfl
  | cons i is =>
    obtain ⟨t, ht⟩ := exec_completes i s
    rw [readDataOf_cons ht, readDataOf_cons ((exec_drive i v s).trans ht)]

/-- What stood on RDATA before a sequence is in no register after it; it stays on RDATA only if the sequence is empty. -/
theorem execSeq_drive {is : List Instr} {s t : State} (h : execSeq is s = .next t) (v : ReadData) :
    ∃ r, execSeq is (s.drive v) = .next (t.drive r) := by
  cases is with
  | nil =>
    cases h
    exact ⟨v, rfl⟩
  | cons i is =>
    obtain ⟨u, hu⟩ := exec_completes i s
    rw [execSeq_cons hu] at h
    exact ⟨t.rdata, (execSeq_cons ((exec_drive i v s).trans hu) is).trans h⟩

/-- An accessor drives RDATA and writes nothing else (R140, R141). -/
theorem exec_accessor {i : Instr} (h : isAccessor i = true) (s : State) : ∃ r, exec i s = .next (s.drive r) := by
  cases i with
  | rdpos ch => exact ⟨s.readChannel ch, exec_rdpos ch s⟩
  | rdtsu => exact ⟨s.readStaleness, exec_rdtsu s⟩
  | nop => cases h
  | rst => cases h
  | cnt => cases h
  | tick => cases h
  | edge l v => cases h

/-- A run of accessors leaves the state but for RDATA (R142). -/
theorem execSeq_accessors {is : List Instr} (hall : ∀ i ∈ is, isAccessor i = true) (s : State) :
    ∃ r, execSeq is s = .next (s.drive r) := by
  induction is generalizing s with
  | nil => exact ⟨s.rdata, rfl⟩
  | cons i is ih =>
    obtain ⟨r, hfirst⟩ := exec_accessor (hall i List.mem_cons_self) s
    rw [execSeq_cons hfirst]
    exact ih (fun j hj => hall j (List.mem_cons_of_mem i hj)) (s.drive r)

/-- Settles O15: the accessors hand on the state they found but for RDATA, which no command after them reads. -/
theorem accessorsDoNotDisturbDecoding : Obligations.AccessorsDoNotDisturbDecoding := by
  unfold Obligations.AccessorsDoNotDisturbDecoding
  intro before inserted after s haccessors
  obtain ⟨m, hbefore⟩ := execSeq_completes before s
  obtain ⟨v, hinserted⟩ := execSeq_accessors haccessors m
  obtain ⟨u, hafter⟩ := execSeq_completes after m
  obtain ⟨r, hafter'⟩ := execSeq_drive hafter v
  have hboth : execSeq (before ++ inserted) s = .next (m.drive v) := (execSeq_append hbefore inserted).trans hinserted
  constructor
  · refine ⟨readDataOf before s, readDataOf inserted m, readDataOf after m, ?_, length_readDataOf before s,
      length_readDataOf inserted m, readDataOf_append hbefore after⟩
    rw [readDataOf_append hboth, readDataOf_append hbefore, readDataOf_drive]
  · exact ⟨u.drive r, u, (execSeq_append hboth after).trans hafter', (execSeq_append hbefore after).trans hafter, rfl⟩

end Sys2Proof.Machine
end

section
/-! PROOFS. Exceptions: the block raises none, so no command ends in anything but a next state (60_exceptions.md R150). -/

namespace Sys2Proof.Machine

/-- There is nothing for a step to raise: the type of faults has no constructor (R150). -/
theorem not_fault (f : Fault) : False := by
  cases f

/-- Settles O29: there is no fault to raise, and each command's arm answers a next state. -/
theorem everyCommandCompletes : Obligations.EveryCommandCompletes := by
  unfold Obligations.EveryCommandCompletes
  exact ⟨not_fault, exec_completes⟩

end Sys2Proof.Machine
end

section
/-! PROOFS. The decoder and the encoder as each other's inverse (30_encoding.md R61 to R68), and the reserved words with the
reason each is refused under (R65). -/

namespace Sys2Proof

/-- Settles O18: the round trip from commands and the one from words. -/
theorem decodeInvertsEncode : Obligations.DecodeInvertsEncode := by
  unfold Obligations.DecodeInvertsEncode
  refine ⟨fun i hwf => decode_encode hwf, fun w i h => ?_⟩
  obtain ⟨hwf, hw⟩ := (decode_eq_ok_iff w i).mp h
  exact ⟨hwf, hw.symm⟩

/-- Settles O19: each listed word is the encoding of the command beside it. -/
theorem listedWordsDecodeAsListed : Obligations.ListedWordsDecodeAsListed := by
  unfold Obligations.ListedWordsDecodeAsListed
  exact ⟨decode_encode (i := .edge 0 false) rfl, decode_encode (i := .edge 2 false) rfl,
    decode_encode (i := .edge 0 true) rfl, decode_encode (i := .edge 2 true) rfl, decode_encode (i := .rdpos 0) rfl,
    decode_encode (i := .rdpos 31) rfl, decode_encode (i := .rdtsu) rfl, decode_encode (i := .rst) rfl⟩

/-- The fields of a word as numbers (R60, R62). -/
theorem opField_toNat (w : CmdWord) : (opField w).toNat = w.toNat / 32 := by
  have hw : w.toNat < 256 := w.isLt
  rw [opField, BitVec.extractLsb'_toNat, Nat.shiftRight_eq_div_pow]
  omega

theorem argField_toNat (w : CmdWord) : (argField w).toNat = w.toNat % 32 := by
  rw [argField, BitVec.extractLsb'_toNat]
  rfl

theorem edgeZeroField_toNat (w : CmdWord) : (edgeZeroField w).toNat = w.toNat / 8 % 4 := by
  rw [edgeZeroField, BitVec.extractLsb'_toNat, Nat.shiftRight_eq_div_pow]

/-- A command without operand refuses every other value of its arg field (R64). -/
theorem decode_eq_nonzeroArgument {w : CmdWord} (hop : w.toNat / 32 ≤ 3 ∨ w.toNat / 32 = 6) (harg : w.toNat % 32 ≠ 0) :
    decode w = .error .nonzeroArgument := by
  have hplain (i : Instr) : decodePlain w i = .error .nonzeroArgument := by
    refine if_neg fun hzero => harg ?_
    rw [← argField_toNat, hzero]
    rfl
  have hrow : w.toNat / 32 = 0 ∨ w.toNat / 32 = 1 ∨ w.toNat / 32 = 2 ∨ w.toNat / 32 = 3 ∨ w.toNat / 32 = 6 := by omega
  unfold decode
  rw [opField_toNat]
  rcases hrow with h | h | h | h | h <;> rw [h] <;> exact hplain _

/-- EDGE refuses a word whose `arg[4:3]` is not 00 (R62). -/
theorem decode_eq_edgeHighBits {w : CmdWord} (hop : w.toNat / 32 = 4) (hzero : w.toNat / 8 % 4 ≠ 0) :
    decode w = .error .edgeHighBits := by
  unfold decode
  rw [opField_toNat, hop]
  refine if_neg fun h => hzero ?_
  rw [← edgeZeroField_toNat, h]
  rfl

/-- The last op has no row (R65, R66). -/
theorem decode_eq_reservedOp {w : CmdWord} (hop : w.toNat / 32 = 7) : decode w = .error .reservedOp := by
  unfold decode
  rw [opField_toNat, hop]
  rfl

namespace Machine

/-- A step that takes a command word runs it, whoever presented it (R48, R158). -/
theorem step_of_command {s : State} {a : Agent} {w : CmdWord} {rest : List Input} (h : s.inputs = .command a w :: rest) :
    step s = runWord w (s.withInputs rest) := by
  rw [step_of_inputs_cons h]
  rfl

/-- A reserved command word is refused under the decoder's reason (R65, K10). -/
theorem runWord_of_decode_error {w : CmdWord} {e : DecodeError} (h : decode w = .error e) (s : State) :
    runWord w s = .refused (.reservedCommand e w) := by
  rw [runWord, h]

/-- Settles O20: the op and arg fields of each listed range decide the decoder's reason, under which the step refuses. -/
theorem reservedWordsAreRefused : Obligations.ReservedWordsAreRefused := by
  unfold Obligations.ReservedWordsAreRefused
  intro s a w rest hinputs
  have hrefused {e : DecodeError} (h : decode w = .error e) : step s = .refused (.reservedCommand e w) :=
    (step_of_command hinputs).trans (runWord_of_decode_error h _)
  have hw : w.toNat < 256 := w.isLt
  refine ⟨fun h => ?_, fun h => ?_, fun h => ?_, fun h => ?_⟩
  · exact hrefused (decode_eq_nonzeroArgument (by omega) (by omega))
  · rcases h with rfl | rfl <;> exact hrefused (by decide)
  · exact hrefused (decode_eq_edgeHighBits (by omega) (by omega))
  · exact hrefused (decode_eq_reservedOp (by omega))

/-- Settles O24: the step runs the word, and a legal word runs its command. -/
theorem stepRunsDecodedCommand : Obligations.StepRunsDecodedCommand := by
  unfold Obligations.StepRunsDecodedCommand
  intro s a w rest i hinputs hdecode
  exact (step_of_command hinputs).trans (runWord_of_decode hdecode _)

end Machine
end Sys2Proof
end

section
/-! PROOFS. What one command can do, register by register: the one list of effects that every statement about writers
(10_state.md R29, R30, R33) and every invariant reads off. -/

namespace Sys2Proof.Machine

/-- What an accepted edge leaves in the sequencer and the counters (R105, R111). -/
@[simp] theorem acceptEdge_idx (s : State) : s.acceptEdge.idx = s.idx + 1 := by
  rw [acceptEdge_eq]

@[simp] theorem acceptEdge_tsu (s : State) : s.acceptEdge.tsu = if s.idx = 2 then 0 else s.tsu := by
  rw [acceptEdge_eq]
  simp only [idx_succ_toNat_eq_three_iff]

@[simp] theorem acceptEdge_tcnt (s : State) : s.acceptEdge.tcnt = 0 := by
  rw [acceptEdge_eq]

/-- What a resync edge leaves (R101). -/
@[simp] theorem resynchronise_pos (s : State) : s.resynchronise.pos = s.pos := rfl
@[simp] theorem resynchronise_idx (s : State) : s.resynchronise.idx = 0 := rfl
@[simp] theorem resynchronise_itc (s : State) : s.resynchronise.itc = 0 := rfl
@[simp] theorem resynchronise_tsu (s : State) : s.resynchronise.tsu = s.tsu := rfl
@[simp] theorem resynchronise_tcnt (s : State) : s.resynchronise.tcnt = 0 := rfl

/-- An EDGE writes POS only when it is stored: the slot IDX names (R110). -/
theorem takeEdge_pos (s : State) : s.takeEdge.pos = if s.edgeKind = .stored then
    s.pos.setIfInBounds s.idx.toNat (BitVec.ofInt 8 (positionOf Config.hw s.elapsed)) else s.pos := by
  rw [takeEdge_eq_effect]
  cases hkind : s.edgeKind with
  | resync => rfl
  | completedCycle => rfl
  | debounced => rfl
  | stored =>
    have hwindow := inWindow_of_stored hkind
    simp [EdgeKind.effect, acceptEdge_eq, hwindow]
  | held =>
    have hwindow := not_inWindow_of_held hkind
    simp [EdgeKind.effect, acceptEdge_eq, hwindow]

/-- An EDGE clears IDX by a resync and adds one to it where it is accepted (R101, R111). -/
theorem takeEdge_idx (s : State) : s.takeEdge.idx =
    if s.edgeKind = .resync then 0 else if s.edgeKind.accepted then s.idx + 1 else s.idx := by
  rw [takeEdge_eq_effect]
  cases s.edgeKind <;> simp [EdgeKind.effect, EdgeKind.accepted]

/-- An EDGE clears ITC unless it is debounced (R101, R104, R112). -/
theorem takeEdge_itc (s : State) : s.takeEdge.itc = if s.edgeKind = .debounced then s.itc else 0 := by
  rw [takeEdge_eq_effect]
  cases s.edgeKind <;> rfl

/-- An EDGE clears TSU where it completes the cycle, and never else (R111). -/
theorem takeEdge_tsu (s : State) : s.takeEdge.tsu =
    if s.edgeKind.accepted = true ∧ s.idx = 2 then 0 else s.tsu := by
  rw [takeEdge_eq_effect]
  cases s.edgeKind <;> simp [EdgeKind.effect, EdgeKind.accepted]

/-- An EDGE clears TCNT, the reference of the next measurement, by a resync and where it is accepted (R101, R105). -/
theorem takeEdge_tcnt (s : State) : s.takeEdge.tcnt =
    if s.edgeKind = .resync ∨ s.edgeKind.accepted = true then 0 else s.tcnt := by
  rw [takeEdge_eq_effect]
  cases s.edgeKind <;> simp [EdgeKind.effect, EdgeKind.accepted]

/-- Everything one command can do (R80 to R83, R100, R140, R141). -/
theorem exec_cases {i : Instr} {s t : State} (h : exec i s = .next t) :
    (∃ r, t = s.drive r) ∨ (i = .cnt ∧ t = s.countTimer.drive 0) ∨
    (i = .tick ∧ t = s.tickGap.tickStaleness.drive 0) ∨ (i = .rst ∧ t = s.initialise.drive 0) ∨
    (isEdge i = true ∧ t = s.takeEdge.drive 0) := by
  cases i with
  | nop => cases h; exact .inl ⟨_, rfl⟩
  | rst => cases h; exact .inr (.inr (.inr (.inl ⟨rfl, rfl⟩)))
  | cnt => cases h; exact .inr (.inl ⟨rfl, rfl⟩)
  | tick => cases h; exact .inr (.inr (.inl ⟨rfl, rfl⟩))
  | edge l v => cases h; exact .inr (.inr (.inr (.inr ⟨rfl, rfl⟩)))
  | rdpos ch => cases h; exact .inl ⟨_, rfl⟩
  | rdtsu => cases h; exact .inl ⟨_, rfl⟩

/-- What RST's state change leaves of the ports. -/
@[simp] theorem initialise_inLine (s : State) : s.initialise.inLine = s.inLine := rfl
@[simp] theorem initialise_inputs (s : State) : s.initialise.inputs = s.inputs := rfl

/-- No command writes the input port or what waits (R160). -/
theorem exec_ports {i : Instr} {s t : State} (h : exec i s = .next t) : t.inLine = s.inLine ∧ t.inputs = s.inputs := by
  rcases exec_cases h with ⟨r, rfl⟩ | ⟨_, rfl⟩ | ⟨_, rfl⟩ | ⟨_, rfl⟩ | ⟨_, rfl⟩ <;> simp

/-- Among the commands only RST writes the reference bits (R32). -/
theorem exec_lvl {i : Instr} {s t : State} (h : exec i s = .next t) :
    t.lvl = s.lvl ∨ (i = .rst ∧ t.lvl = s.inLine) := by
  rcases exec_cases h with ⟨r, rfl⟩ | ⟨_, rfl⟩ | ⟨_, rfl⟩ | ⟨hi, rfl⟩ | ⟨_, rfl⟩
  · exact .inl rfl
  · exact .inl rfl
  · exact .inl rfl
  · exact .inr ⟨hi, rfl⟩
  · exact .inl (takeEdge_lvl s)

/-- Settles O33: RST aside, only EDGE touches POS, only when it is stored, and then only the slot IDX names. -/
theorem positionChangesOnlyByStoredEdgeOrRst : Obligations.PositionChangesOnlyByStoredEdgeOrRst := by
  unfold Obligations.PositionChangesOnlyByStoredEdgeOrRst
  intro i s t k h hchange
  rcases exec_cases h with ⟨r, rfl⟩ | ⟨_, rfl⟩ | ⟨_, rfl⟩ | ⟨hi, rfl⟩ | ⟨hi, rfl⟩
  · exact absurd rfl hchange
  · exact absurd rfl hchange
  · exact absurd rfl hchange
  · exact .inl hi
  · right
    rw [State.drive_pos, takeEdge_pos] at hchange
    by_cases hkind : s.edgeKind = .stored
    · refine ⟨hi, hkind, ?_⟩
      by_contra hslot
      rw [if_pos hkind, Fin.getElem_fin, Vector.getElem_setIfInBounds_ne _ hslot] at hchange
      exact hchange rfl
    · rw [if_neg hkind] at hchange
      exact absurd rfl hchange

/-- A tick counter that a tick changes has grown by one (R83). -/
theorem toNat_of_sat_tick {x y : TickCount} (h : y.toNat = min (x.toNat + 1) 65535) (hchange : y ≠ x) :
    y.toNat = x.toNat + 1 := by
  have hne : y.toNat ≠ x.toNat := fun heq => hchange (BitVec.eq_of_toNat_eq heq)
  have hlt : x.toNat < 65536 := x.isLt
  omega

/-- Settles O34: TICK and RST by their own effects, and EDGE clears TSU exactly where it completes the cycle. -/
theorem stalenessWritersAreTickRstAndCompletion : Obligations.StalenessWritersAreTickRstAndCompletion := by
  unfold Obligations.StalenessWritersAreTickRstAndCompletion
  intro i s t h hchange
  rcases exec_cases h with ⟨r, rfl⟩ | ⟨_, rfl⟩ | ⟨hi, rfl⟩ | ⟨hi, rfl⟩ | ⟨hi, rfl⟩
  · exact absurd rfl hchange
  · exact absurd rfl hchange
  · exact .inl ⟨hi, toNat_of_sat_tick (tickStaleness_tsu_toNat s.tickGap) hchange⟩
  · exact .inr ⟨rfl, .inl hi⟩
  · by_cases hcompletes : s.edgeKind.accepted = true ∧ s.idx = 2
    · obtain ⟨haccepted, hidx⟩ := hcompletes
      obtain ⟨hthree, hcleared⟩ := takeEdge_completes hidx haccepted
      exact .inr ⟨hcleared, .inr ⟨hi, haccepted, hidx, hthree⟩⟩
    · rw [State.drive_tsu, takeEdge_tsu, if_neg hcompletes] at hchange
      exact absurd rfl hchange

/-- R29's write column of IDX. -/
theorem exec_idx_writers {i : Instr} {s t : State} (h : exec i s = .next t) (hchange : t.idx ≠ s.idx) :
    i = .rst ∨ (isEdge i = true ∧ (s.edgeKind = .resync ∧ t.idx = 0 ∨
      s.edgeKind.accepted = true ∧ t.idx.toNat = s.idx.toNat + 1)) := by
  rcases exec_cases h with ⟨r, rfl⟩ | ⟨_, rfl⟩ | ⟨_, rfl⟩ | ⟨hi, rfl⟩ | ⟨hi, rfl⟩
  · exact absurd rfl hchange
  · exact absurd rfl hchange
  · exact absurd rfl hchange
  · exact .inl hi
  · refine .inr ⟨hi, ?_⟩
    rw [State.drive_idx, takeEdge_idx] at hchange ⊢
    by_cases hresync : s.edgeKind = .resync
    · exact .inl ⟨hresync, if_pos hresync⟩
    · rw [if_neg hresync] at hchange ⊢
      by_cases haccepted : s.edgeKind.accepted = true
      · rw [if_pos haccepted]
        exact .inr ⟨haccepted, idx_succ_toNat (idx_lt_three_of_accepted haccepted)⟩
      · rw [if_neg haccepted] at hchange
        exact absurd rfl hchange

/-- R29's write column of ITC. -/
theorem exec_itc_writers {i : Instr} {s t : State} (h : exec i s = .next t) (hchange : t.itc ≠ s.itc) :
    i = .tick ∧ t.itc.toNat = s.itc.toNat + 1 ∨
      t.itc = 0 ∧ (i = .rst ∨ (isEdge i = true ∧ s.edgeKind ≠ .debounced)) := by
  rcases exec_cases h with ⟨r, rfl⟩ | ⟨_, rfl⟩ | ⟨hi, rfl⟩ | ⟨hi, rfl⟩ | ⟨hi, rfl⟩
  · exact absurd rfl hchange
  · exact absurd rfl hchange
  · exact .inl ⟨hi, toNat_of_sat_tick (tickGap_itc_toNat s) hchange⟩
  · exact .inr ⟨rfl, .inl hi⟩
  · rw [State.drive_itc, takeEdge_itc] at hchange ⊢
    by_cases hkind : s.edgeKind = .debounced
    · rw [if_pos hkind] at hchange
      exact absurd rfl hchange
    · exact .inr ⟨if_neg hkind, .inr ⟨hi, hkind⟩⟩

/-- A count is an increment of the 16-bit timer (R82). -/
theorem countTimer_tcnt_eq_add_one (s : State) : s.countTimer.tcnt = s.tcnt + 1 := by
  apply BitVec.eq_of_toNat_eq
  rw [countTimer_tcnt_toNat, BitVec.toNat_add]
  rfl

/-- R29's write column of TCNT. -/
theorem exec_tcnt_writers {i : Instr} {s t : State} (h : exec i s = .next t) (hchange : t.tcnt ≠ s.tcnt) :
    i = .cnt ∧ t.tcnt = s.tcnt + 1 ∨
      t.tcnt = 0 ∧ (i = .rst ∨ (isEdge i = true ∧ (s.edgeKind = .resync ∨ s.edgeKind.accepted = true))) := by
  rcases exec_cases h with ⟨r, rfl⟩ | ⟨hi, rfl⟩ | ⟨_, rfl⟩ | ⟨hi, rfl⟩ | ⟨hi, rfl⟩
  · exact absurd rfl hchange
  · exact .inl ⟨hi, countTimer_tcnt_eq_add_one s⟩
  · exact absurd rfl hchange
  · exact .inr ⟨rfl, .inl hi⟩
  · rw [State.drive_tcnt, takeEdge_tcnt] at hchange ⊢
    by_cases hkind : s.edgeKind = .resync ∨ s.edgeKind.accepted = true
    · exact .inr ⟨if_pos hkind, .inr ⟨hi, hkind⟩⟩
    · rw [if_neg hkind] at hchange
      exact absurd rfl hchange

/-- Settles O35: one write column after the other; IDX has two bits, and no command writes a port. -/
theorem otherRegistersHaveOnlyTheirWriters : Obligations.OtherRegistersHaveOnlyTheirWriters := by
  unfold Obligations.OtherRegistersHaveOnlyTheirWriters
  intro i s t h
  refine ⟨exec_idx_writers h, exec_itc_writers h, exec_tcnt_writers h, fun hchange => ?_,
    Nat.le_of_lt_succ t.idx.isLt, exec_ports h⟩
  exact (exec_lvl h).resolve_left hchange

/-- What an observer of the read data can learn of a state: POS and TSU (R30). -/
def SameReadable (s s' : State) : Prop := s.pos = s'.pos ∧ s.tsu = s'.tsu

/-- A command other than EDGE drives the same value from two states that read the same, and they read the same after it. -/
theorem exec_sameReadable {i : Instr} {s s' t t' : State} (hedge : isEdge i = false) (hsame : SameReadable s s')
    (h : exec i s = .next t) (h' : exec i s' = .next t') : t.rdata = t'.rdata ∧ SameReadable t t' := by
  obtain ⟨hpos, htsu⟩ := hsame
  cases i with
  | edge l v => cases hedge
  | nop => cases h; cases h'; exact ⟨rfl, hpos, htsu⟩
  | rst => cases h; cases h'; exact ⟨rfl, rfl, rfl⟩
  | cnt => cases h; cases h'; exact ⟨rfl, hpos, htsu⟩
  | tick =>
    cases h; cases h'
    refine ⟨rfl, hpos, BitVec.eq_of_toNat_eq ?_⟩
    rw [State.drive_tsu, State.drive_tsu, tickStaleness_tsu_toNat, tickStaleness_tsu_toNat, State.tickGap_tsu,
      State.tickGap_tsu, htsu]
  | rdpos ch =>
    cases h; cases h'
    refine ⟨?_, hpos, htsu⟩
    rw [State.drive_rdata, State.drive_rdata, State.readChannel, State.readChannel, State.posAt, State.posAt, hpos]
  | rdtsu =>
    cases h; cases h'
    exact ⟨congrArg (BitVec.setWidth 16) htsu, hpos, htsu⟩

/-- Over commands other than EDGE, two states that read the same drive the same read data. -/
theorem readDataOf_eq_of_sameReadable {is : List Instr} (hedges : ∀ i ∈ is, isEdge i = false) {s s' : State}
    (hsame : SameReadable s s') : readDataOf is s = readDataOf is s' := by
  induction is generalizing s s' with
  | nil => rfl
  | cons i is ih =>
    obtain ⟨t, ht⟩ := exec_completes i s
    obtain ⟨t', ht'⟩ := exec_completes i s'
    obtain ⟨hdata, hnext⟩ := exec_sameReadable (hedges i List.mem_cons_self) hsame ht ht'
    rw [readDataOf_cons ht, readDataOf_cons ht', hdata, ih (fun j hj => hedges j (List.mem_cons_of_mem i hj)) hnext]

/-- Settles O36: POS and TSU are all that the read data shows of a state. -/
theorem readDataHidesSequencerAndTimers : Obligations.ReadDataHidesSequencerAndTimers := by
  unfold Obligations.ReadDataHidesSequencerAndTimers
  intro is s s' hedges hpos htsu
  exact readDataOf_eq_of_sameReadable hedges ⟨hpos, htsu⟩

/-- Settles O21: each command's own drive of RDATA. -/
theorem everyCommandDrivesItsReadData : Obligations.EveryCommandDrivesItsReadData := by
  unfold Obligations.EveryCommandDrivesItsReadData
  intro i s
  cases i with
  | nop => exact ⟨_, exec_nop s, rfl⟩
  | rst => exact ⟨_, exec_rst s, rfl⟩
  | cnt => exact ⟨_, exec_cnt s, rfl⟩
  | tick => exact ⟨_, exec_tick s, rfl⟩
  | edge l v => exact ⟨_, exec_edge l v s, rfl⟩
  | rdtsu => exact ⟨_, exec_rdtsu s, readStaleness_eq_tsu s⟩
  | rdpos ch =>
    refine ⟨_, exec_rdpos ch s, ?_⟩
    show s.readChannel ch = if h : ch.toNat < 3 then (s.pos[ch.toNat]).signExtend 16 else 0
    split
    · next hch => exact readChannel_of_lt hch s
    · next hch => exact readChannel_of_ge (Nat.le_of_not_lt hch) s

end Sys2Proof.Machine
end

section
/-! PROOFS. The range of the mapping (00_scope.md R8, 41_edge.md R109) and the invariants of 10_state.md R33: each is a
predicate that every command and every arrival at a port keeps, so every step keeps it. -/

namespace Sys2Proof.Machine

/-- A larger clamped value never maps to a smaller position. -/
theorem mapClamped_mono (c : Config) {ec ec' : Nat} (h : ec ≤ ec') : mapClamped c ec ≤ mapClamped c ec' :=
  tdiv_mono _ (mul_le_mul_of_nonneg_right (sub_le_sub_right (Int.ofNat_le.mpr h) _) (Int.natCast_nonneg _))

/-- Every position lies between those of the two clamp bounds (R107). -/
theorem positionOf_between_clamps {c : Config} (h : c.clampLo ≤ c.clampHi) (e : Nat) :
    mapClamped c c.clampLo ≤ positionOf c e ∧ positionOf c e ≤ mapClamped c c.clampHi := by
  obtain ⟨hlo, hhi⟩ := clamp_bounds e h
  exact ⟨mapClamped_mono c hlo, mapClamped_mono c hhi⟩

/-- R8's closing sentence: under its constraints every position is in [-127, 127]. -/
theorem positionOf_range {c : Config} (h : c.Admissible) (e : Nat) : -127 ≤ positionOf c e ∧ positionOf c e ≤ 127 := by
  obtain ⟨_, ⟨_, _, _, hloCenter, hcenterHi, _, _⟩, ⟨_, ⟨hmin, _⟩, ⟨_, hmax⟩⟩, _, _⟩ := h
  obtain ⟨hlo, hhi⟩ := positionOf_between_clamps (hloCenter.trans hcenterHi) e
  exact ⟨hmin.trans hlo, hhi.trans hmax⟩

/-- The smallest width that holds `n ≥ 1` has no bit to spare (R8). -/
theorem pow_pred_le_of_smallest_width {n w : Nat} (hn : 1 ≤ n) (hsmallest : ∀ w', n < 2 ^ w' → w ≤ w') :
    2 ^ (w - 1) ≤ n := by
  by_contra hlt
  have hw : w ≤ w - 1 := hsmallest _ (Nat.lt_of_not_le hlt)
  obtain rfl : w = 0 := by omega
  exact hlt hn

/-- Settles O7: R8's constraints make a configuration admissible, and the mapping of an admissible one is between the
positions of its clamp bounds. -/
theorem admissibleConfigurationMapsIntoRange : Obligations.AdmissibleConfigurationMapsIntoRange := by
  unfold Obligations.AdmissibleConfigurationMapsIntoRange
  refine ⟨hw_admissible, fun e _ _ => positionOf_range hw_admissible e, ?_⟩
  intro c hn hch hidx hsmallest hdebounce hwinLo hclampLo hloCenter hcenterHi hclampHi hwinHi hloMin hloMax hhiMin hhiMax
    hresync hitc htsu hden
  have hadmissible : c.Admissible :=
    ⟨⟨hn, hch, hidx, pow_pred_le_of_smallest_width hn hsmallest⟩,
      ⟨hdebounce, hwinLo, hclampLo, hloCenter, hcenterHi, hclampHi, hwinHi⟩,
      ⟨hden, ⟨hloMin, hloMax⟩, ⟨hhiMin, hhiMax⟩⟩, ⟨hresync, hitc⟩, htsu⟩
  exact ⟨hadmissible, fun e _ => positionOf_range hadmissible e⟩

/-- A predicate that every command keeps, and every arrival at a port: what waits is taken, a line stands where the front end
saw it, a line and its reference bit move together, and the `rst` port runs RST at any levels (R154, R160, R170). -/
structure StepInvariant (P : State → Prop) : Prop where
  exec : ∀ {i : Instr} {s t : State}, P s → Machine.exec i s = .next t → P t
  withInputs : ∀ (rest : List Input) {s : State}, P s → P (s.withInputs rest)
  lineSeen : ∀ (l : Fin 3) {s : State}, P s → P (s.setLine l s.lvl[l])
  lineMoved : ∀ (l : Fin 3) (v : Bool) {s : State}, P s → P ((s.setLine l v).setReference l v)
  resetPort : ∀ (levels : LineLevels) {s : State}, P s → P ((s.setLines levels).initialise.drive 0)

/-- Such a predicate holds after every step from a state where it holds. -/
theorem StepInvariant.step {P : State → Prop} (hP : StepInvariant P) {s t : State} (hs : P s)
    (h : Machine.step s = .next t) : P t := by
  have hword {w : CmdWord} {u : State} (hu : P u) (hrun : runWord w u = .next t) : P t := by
    obtain ⟨i, _, hexec⟩ := runWord_cases hrun
    exact hP.exec hu hexec
  rcases step_cases h with ⟨_, rfl⟩ | ⟨i, rest, _, htake⟩
  · exact hs
  · have htaken : P (s.withInputs rest) := hP.withInputs rest hs
    rcases takeInput_cases htake with ⟨l, _, _, rfl, rfl⟩ | ⟨l, v, _, _, hrun⟩ | ⟨levels, _, hrun⟩ | ⟨w, hrun⟩
    · exact hP.lineSeen l htaken
    · exact hword (hP.lineMoved l v htaken) hrun
    · rw [runWord_encode_rst, exec_rst] at hrun
      cases hrun
      exact hP.resetPort levels htaken
    · exact hword htaken hrun

/-- A position in range is stored as it is in 8 bits (R10, R110). -/
theorem toInt_ofInt_of_range {p : Int} (h : -127 ≤ p ∧ p ≤ 127) : (BitVec.ofInt 8 p).toInt = p :=
  BitVec.toInt_ofInt_eq_self (by decide) (by omega) (by omega)

/-- An entry of the position file after an EDGE: the elapsed value's position where it was stored, else what it held. -/
theorem takeEdge_pos_getElem (s : State) (k : Fin 3) : s.takeEdge.pos[k] =
    if s.edgeKind = .stored ∧ s.idx.toNat = k then BitVec.ofInt 8 (positionOf Config.hw s.elapsed) else s.pos[k] := by
  rw [takeEdge_pos]
  by_cases hkind : s.edgeKind = .stored
  · rw [if_pos hkind, Fin.getElem_fin, Vector.getElem_setIfInBounds]
    simp only [hkind, true_and]
    rfl
  · rw [if_neg hkind, if_neg fun ⟨hstored, _⟩ => hkind hstored]

/-- A cleared position file is in range (R31). -/
theorem positionsInRange_of_cleared {s : State} (h : s.pos = Vector.replicate 3 0) : s.PositionsInRange := by
  intro k
  rw [h, Fin.getElem_fin, Vector.getElem_replicate]
  decide

/-- The positions stay in range: EDGE stores a mapped value, RST stores 0, and nothing else writes POS (R33). -/
theorem positionsInRange_invariant : StepInvariant State.PositionsInRange where
  exec {i s t} hs h := by
    rcases exec_cases h with ⟨r, rfl⟩ | ⟨_, rfl⟩ | ⟨_, rfl⟩ | ⟨_, rfl⟩ | ⟨_, rfl⟩
    · exact hs
    · exact hs
    · exact hs
    · exact positionsInRange_of_cleared rfl
    · intro k
      rw [State.drive_pos, takeEdge_pos_getElem]
      split
      · rw [toInt_ofInt_of_range (positionOf_range hw_admissible _)]
        exact positionOf_range hw_admissible _
      · exact hs k
  withInputs _ _ hs := hs
  lineSeen _ _ hs := hs
  lineMoved _ _ _ hs := hs
  resetPort _ _ _ := positionsInRange_of_cleared rfl

/-- Settles O38: the range of the positions is kept, IDX has two bits, and -128 is out of range. -/
theorem stepKeepsPositionsInRange : Obligations.StepKeepsPositionsInRange := by
  unfold Obligations.StepKeepsPositionsInRange
  intro s t hs _ h
  have ht : t.PositionsInRange := positionsInRange_invariant.step hs h
  refine ⟨ht, Nat.le_of_lt_succ t.idx.isLt, fun k hk => ?_⟩
  obtain ⟨hmin, _⟩ := ht k
  rw [hk] at hmin
  exact absurd hmin (by decide)

/-- The gap counter stays at most the staleness counter: a tick advances both, and an EDGE that leaves ITC leaves TSU (R83,
R104, R112). -/
theorem gapWithinStaleness_invariant : StepInvariant State.GapWithinStaleness where
  exec {i s t} hs h := by
    unfold State.GapWithinStaleness at hs ⊢
    rcases exec_cases h with ⟨r, rfl⟩ | ⟨_, rfl⟩ | ⟨_, rfl⟩ | ⟨_, rfl⟩ | ⟨_, rfl⟩
    · exact hs
    · exact hs
    · rw [State.drive_itc, State.drive_tsu, State.tickStaleness_itc, tickGap_itc_toNat, tickStaleness_tsu_toNat,
        State.tickGap_tsu]
      omega
    · exact Nat.le_refl 0
    · rw [State.drive_itc, State.drive_tsu]
      by_cases hkind : s.edgeKind = .debounced
      · rw [takeEdge_eq_effect, hkind]
        exact hs
      · rw [takeEdge_itc, if_neg hkind]
        exact Nat.zero_le _
  withInputs _ _ hs := hs
  lineSeen _ _ hs := hs
  lineMoved _ _ _ hs := hs
  resetPort _ _ _ := Nat.le_refl 0

/-- Settles O39: ITC at most TSU is kept by every command and every arrival, so by every step. -/
theorem stepKeepsGapWithinStaleness : Obligations.StepKeepsGapWithinStaleness := by
  unfold Obligations.StepKeepsGapWithinStaleness
  exact fun _ _ hs h => gapWithinStaleness_invariant.step hs h

/-- The reference bits stay at their lines: a line moves with its bit, and RST re-arms every bit to its line (R32, R154). -/
theorem referencesTrackLines_invariant : StepInvariant State.ReferencesTrackLines where
  exec {i s t} hs h := by
    unfold State.ReferencesTrackLines at hs ⊢
    obtain ⟨hinLine, _⟩ := exec_ports h
    rcases exec_lvl h with hlvl | ⟨_, hlvl⟩
    · rw [hlvl, hinLine, hs]
    · rw [hlvl, hinLine]
  withInputs _ _ hs := hs
  lineSeen l s hs := by
    have hseen : s.lvl[l] = s.inLine[l] := congrArg (·[l]) hs
    rw [hseen, setLine_self]
    exact hs
  lineMoved l v _ hs := congrArg (fun levels : LineLevels => levels.set l v) hs
  resetPort _ _ _ := rfl

/-- Settles O40: the bits standing at their lines is kept by every command and every arrival, so by every step. -/
theorem stepKeepsReferencesOnLines : Obligations.StepKeepsReferencesOnLines := by
  unfold Obligations.StepKeepsReferencesOnLines
  exact fun _ _ hs h => referencesTrackLines_invariant.step hs h

/-- Settles O37: at reset every position is 0, both tick counters are 0, and every line and its bit are low. -/
theorem resetMeetsTheInvariants : Obligations.ResetMeetsTheInvariants := by
  unfold Obligations.ResetMeetsTheInvariants
  exact ⟨positionsInRange_of_cleared rfl, Nat.le_refl 0, rfl⟩

end Sys2Proof.Machine
end

section
/-! PROOFS. From arrivals to commands: what each port's arrival does (60_exceptions.md R154, 70_reset_and_hazards.md R170), and
that a run of the machine is the commands of its arrivals in their order (20_memory.md R48). -/

namespace Sys2Proof.Machine

/-- Settles O25: there is no arrival to take. -/
theorem idleBlockKeepsItsState : Obligations.IdleBlockKeepsItsState := by
  unfold Obligations.IdleBlockKeepsItsState
  intro s hinputs
  rw [step_eq_serve, State.serve, hinputs]

/-- The word of a well-formed command runs that command (R61, R68). -/
theorem runWord_encode {i : Instr} (h : i.wellFormed = true) (s : State) : runWord (encode i) s = exec i s :=
  runWord_of_decode (decode_encode h) s

/-- The front end has three lines, so its EDGE commands are well formed (R62). -/
theorem wellFormed_edge_lineOperand (l : Fin 3) (v : Bool) : (Instr.edge (lineOperand l) v).wellFormed = true := by
  decide +revert

/-- A line at a level its reference bit does not have is a transition: the bit is set and one EDGE runs (R154). -/
theorem step_of_lineLevel_moved {s : State} {l : Fin 3} {v : Bool} {rest : List Input}
    (hinputs : s.inputs = .lineLevel l v :: rest) (hmoved : s.lvl[l] ≠ v) :
    step s = exec (.edge (lineOperand l) v) (((s.withInputs rest).setLine l v).setReference l v) := by
  rw [step_of_inputs_cons hinputs, State.takeInput, State.sampleLine, ← runWord_encode (wellFormed_edge_lineOperand l v)]
  exact if_neg hmoved

/-- An extra EDGE runs with the front end as it is (R154, K9). -/
theorem step_of_extraEdge {s : State} {l : Fin 3} {v : Bool} {rest : List Input}
    (hinputs : s.inputs = .extraEdge l v :: rest) :
    step s = exec (.edge (lineOperand l) v) (s.withInputs rest) := by
  rw [step_of_inputs_cons hinputs, State.takeInput, runWord_encode (wellFormed_edge_lineOperand l v)]

/-- Settles O26: the two sides of the front end's comparison, and the extra EDGE. -/
theorem frontEndIssuesOneEdgePerTransition : Obligations.FrontEndIssuesOneEdgePerTransition := by
  unfold Obligations.FrontEndIssuesOneEdgePerTransition
  intro s l v rest
  exact ⟨step_of_lineLevel_moved, step_of_lineLevel_seen, step_of_extraEdge⟩

/-- Settles O28: the port runs one RST, and RST leaves the reset state but for the ports. -/
theorem powerOnResetIsOneRst : Obligations.PowerOnResetIsOneRst := by
  unfold Obligations.PowerOnResetIsOneRst
  intro s levels rest hinputs
  have hstep := step_of_powerOnReset hinputs
  exact ⟨hstep, hstep.trans (exec_rst _)⟩

/-- Arrival `a` issues command `i`: in every state taking the arrival is executing the command. -/
def Issues (a : Input) (i : Instr) : Prop := ∀ s : State, s.takeInput a = exec i s

/-- A presented word of a well-formed command issues it, whoever presents it (R158). -/
theorem issues_command {i : Instr} (h : i.wellFormed = true) (a : Agent) : Issues (.command a (encode i)) i :=
  runWord_encode h

/-- EDGE's state change leaves RDATA, which the command then drives. -/
@[simp] theorem takeEdge_rdata (s : State) : s.takeEdge.rdata = s.rdata := by
  have h := congrArg State.rdata (takeEdge_frame s s.lvl s.inLine s.rdata s.inputs)
  simpa using h

/-- EDGE does not read what waits (R100). -/
theorem takeEdge_withInputs (is : List Input) (s : State) : (s.withInputs is).takeEdge = s.takeEdge.withInputs is := by
  have h := takeEdge_frame s s.lvl s.inLine s.rdata is
  rw [State.withInputs, State.withInputs, h]
  apply State.ext <;> simp

/-- No command reads what waits: from a state with other arrivals waiting it answers the same but for them. -/
theorem exec_withInputs {i : Instr} {s t : State} (h : exec i s = .next t) (rest : List Input) :
    exec i (s.withInputs rest) = .next (t.withInputs rest) := by
  cases i with
  | edge l v =>
    cases h
    rw [exec_edge, takeEdge_withInputs]
    rfl
  | nop => cases h; rfl
  | rst => cases h; rfl
  | cnt => cases h; rfl
  | tick => cases h; rfl
  | rdpos ch => cases h; rfl
  | rdtsu => cases h; rfl

/-- A run goes on from its first step's next state. -/
theorem run_succ {s t : State} (h : step s = .next t) (k : Nat) :
    Host.Core.run Sys2Proof.core (k + 1) s = Host.Core.run Sys2Proof.core k t := by
  have hstep : Sys2Proof.core.step s = .next t := h
  simp only [Host.Core.run, hstep]

/-- One step for each arrival is one command after another, each the one its arrival issues, with the rest still waiting
(R48). -/
theorem run_eq_execSeq {arrivals : List Input} {is : List Instr} (h : List.Forall₂ Issues arrivals is) (s : State)
    (rest : List Input) :
    Host.Core.run Sys2Proof.core arrivals.length (s.withInputs (arrivals ++ rest)) = execSeq is (s.withInputs rest) := by
  induction h generalizing s with
  | nil => rfl
  | @cons a i arrivals is hissues _ ih =>
    obtain ⟨t, ht⟩ := exec_completes i s
    have hstep : step (s.withInputs (a :: arrivals ++ rest)) = .next (t.withInputs (arrivals ++ rest)) := by
      rw [step_of_inputs_cons rfl, hissues]
      exact exec_withInputs ht _
    rw [List.length_cons, run_succ hstep, ih, execSeq_cons (exec_withInputs ht rest)]

/-- Settles O30: each word issues the command it encodes. -/
theorem runsFollowTheSerialOrder : Obligations.RunsFollowTheSerialOrder := by
  unfold Obligations.RunsFollowTheSerialOrder
  intro cs s rest hwf
  have hissues : List.Forall₂ Issues (cs.map fun c => Input.command c.1 (encode c.2)) (cs.map Prod.snd) := by
    rw [List.forall₂_map_left_iff, List.forall₂_map_right_iff, List.forall₂_same]
    exact fun c hc => issues_command (hwf c hc) c.1
  have hrun := run_eq_execSeq hissues s rest
  rw [List.length_map] at hrun
  exact hrun

/-- The command a strobe's pulse issues (R160). It is asked of pulses only: the other arrivals are no strobe. -/
def strobeCommand : Input → Instr
  | .tickStrobe => .tick
  | _ => .cnt

/-- A pulse of either strobe. -/
def IsPulse (a : Input) : Prop := a = .cntStrobe ∨ a = .tickStrobe

/-- A pulse issues its strobe command (R82, R83). -/
theorem IsPulse.issues {a : Input} (h : IsPulse a) : Issues a (strobeCommand a) := by
  rcases h with rfl | rfl
  · exact runWord_encode (i := .cnt) rfl
  · exact runWord_encode (i := .tick) rfl

theorem IsPulse.isStrobe {a : Input} (h : IsPulse a) : isStrobe (strobeCommand a) = true := by
  rcases h with rfl | rfl <;> rfl

/-- An order holds what the agents issued and nothing else. -/
theorem Serialises.mem_iff {issued : Agent → List Input} {p : List Input} (h : Serialises issued p) (a : Input) :
    a ∈ p ↔ a ∈ issued a.agent := by
  rw [← h a.agent, List.mem_filter]
  simp

/-- Two orders of the same arrivals differ by reordering only (R48). -/
theorem Serialises.perm {issued : Agent → List Input} {p q : List Input} (hp : Serialises issued p)
    (hq : Serialises issued q) : p.Perm q := by
  rw [List.perm_iff_count]
  intro a
  have hcount (order : List Input) : (order.filter fun i => i.agent = a.agent).count a = order.count a :=
    List.count_filter (by simp)
  rw [← hcount p, ← hcount q, hp a.agent, hq a.agent]

/-- A run over pulses does not depend on their order (R84). -/
theorem run_perm_pulses {p q : List Input} (hperm : p.Perm q) (hp : ∀ a ∈ p, IsPulse a) (s : State) :
    Host.Core.run Sys2Proof.core p.length (s.withInputs p) = Host.Core.run Sys2Proof.core q.length (s.withInputs q) := by
  have hrun {r : List Input} (hr : ∀ a ∈ r, IsPulse a) : Host.Core.run Sys2Proof.core r.length (s.withInputs r) =
      execSeq (r.map strobeCommand) (s.withInputs []) := by
    have hissues : List.Forall₂ Issues r (r.map strobeCommand) := by
      rw [List.forall₂_map_right_iff, List.forall₂_same]
      exact fun a ha => (hr a ha).issues
    have h := run_eq_execSeq hissues s []
    rwa [List.append_nil] at h
  rw [hrun hp, hrun fun a ha => hp a (hperm.mem_iff.mpr ha)]
  refine execSeq_perm_strobes (hperm.map strobeCommand) (fun i hi => ?_) _
  obtain ⟨a, ha, rfl⟩ := List.mem_map.mp hi
  exact (hp a ha).isStrobe

/-- Settles O31: the two orders reorder the same pulses, and counts and ticks commute. -/
theorem timebaseAndTickOrderIsImmaterial : Obligations.TimebaseAndTickOrderIsImmaterial := by
  unfold Obligations.TimebaseAndTickOrderIsImmaterial
  intro issued p q s hcounts hticks hedges hhost hreset hp hq
  refine run_perm_pulses (hp.perm hq) (fun a ha => ?_) s
  have hissued := (hp.mem_iff a).mp ha
  cases hagent : a.agent with
  | timebase => exact .inl (hcounts a (hagent ▸ hissued))
  | tickSource => exact .inr (hticks a (hagent ▸ hissued))
  | edgeFrontEnd => rw [hagent, hedges] at hissued; cases hissued
  | host => rw [hagent, hhost] at hissued; cases hissued
  | resetPort => rw [hagent, hreset] at hissued; cases hissued

end Sys2Proof.Machine
end

section
/-! PROOFS. Two or three commands close together: which of them repeat without effect (20_memory.md R44), an EDGE directly
after an EDGE (41_edge.md R116), and the free order of simultaneous commands (60_exceptions.md R155). -/

namespace Sys2Proof.Machine

/-- With the gap counter at 0, an EDGE before the debounce threshold, or in a complete cycle, leaves everything (R102, R104). -/
theorem takeEdge_eq_self {s : State} (hitc : s.itc = 0) (h : s.tcnt.toNat < 400 ∨ s.idx.toNat = 3) : s.takeEdge = s := by
  have hidx : s.idx.toNat < 4 := s.idx.isLt
  have hgap : s.itc.toNat < 50 := by rw [hitc]; decide
  by_cases hslot : s.idx.toNat < 3
  · have hkind : s.edgeKind = .debounced := (edgeKind_eq_iff .debounced s).mpr ⟨hgap, hslot, by omega⟩
    rw [takeEdge_eq_effect, hkind]
    rfl
  · have hkind : s.edgeKind = .completedCycle := (edgeKind_eq_iff .completedCycle s).mpr ⟨hgap, by omega⟩
    rw [takeEdge_eq_effect, hkind, EdgeKind.effect, State.clearGap, ← hitc]

/-- A resync or accepted edge clears the gap counter and the timer (R101, R105, R112). -/
theorem takeEdge_clears {s : State} (h : s.edgeKind = .resync ∨ s.edgeKind.accepted = true) :
    s.takeEdge.itc = 0 ∧ s.takeEdge.tcnt = 0 := by
  have hkind : s.edgeKind ≠ .debounced := by
    intro hkind
    rw [hkind] at h
    exact absurd h (by decide)
  exact ⟨by rw [takeEdge_itc, if_neg hkind], by rw [takeEdge_tcnt, if_pos h]⟩

/-- An EDGE directly after an EDGE changes nothing (R116, notes/assumptions/21.md). -/
theorem takeEdge_takeEdge (s : State) : s.takeEdge.takeEdge = s.takeEdge := by
  by_cases hclears : s.edgeKind = .resync ∨ s.edgeKind.accepted = true
  · obtain ⟨hitc, htcnt⟩ := takeEdge_clears hclears
    exact takeEdge_eq_self hitc (.inl (by rw [htcnt]; decide))
  · cases hkind : s.edgeKind with
    | resync => exact absurd (.inl hkind) hclears
    | stored => exact absurd (.inr (by rw [hkind]; rfl)) hclears
    | held => exact absurd (.inr (by rw [hkind]; rfl)) hclears
    | debounced =>
      have hself : s.takeEdge = s := by rw [takeEdge_eq_effect, hkind]; rfl
      rw [hself, hself]
    | completedCycle =>
      obtain ⟨_, hidx⟩ := (edgeKind_eq_iff .completedCycle s).mp hkind
      have hclear : s.takeEdge = s.clearGap := by rw [takeEdge_eq_effect, hkind]; rfl
      rw [hclear]
      exact takeEdge_eq_self rfl (.inr hidx)

/-- The same of the commands. -/
theorem exec_edge_edge {l : BitVec 2} {v : Bool} {s t : State} (h : exec (.edge l v) s = .next t) (l' : BitVec 2)
    (v' : Bool) : exec (.edge l' v') t = .next t := by
  cases h
  rw [exec_edge, takeEdge_drive, takeEdge_takeEdge]
  rfl

/-- A sequence of one command is that command. -/
theorem execSeq_singleton (i : Instr) (s : State) : execSeq [i] s = exec i s := by
  obtain ⟨t, ht⟩ := exec_completes i s
  rw [execSeq_cons ht, ht]
  rfl

/-- RST reads only the ports, which no command writes, so it leaves the same after any command (R81, R155). -/
theorem exec_rst_after {i : Instr} {s t : State} (h : exec i s = .next t) : exec .rst t = exec .rst s := by
  obtain ⟨hinLine, hinputs⟩ := exec_ports h
  rw [exec_rst, exec_rst, Host.Outcome.next.injEq]
  apply State.ext <;> simp [hinLine, hinputs]

/-- A tick below the resynchronisation threshold leaves the kind of the next edge (R155). -/
theorem edgeKind_tick {s : State} (h : s.itc.toNat < 49) :
    (s.tickGap.tickStaleness.drive 0).edgeKind = s.edgeKind := by
  have hitc : (s.tickGap.tickStaleness.drive 0).itc.toNat = s.itc.toNat + 1 := by
    rw [State.drive_itc, State.tickStaleness_itc, tickGap_itc_toNat]
    omega
  have hafter : ¬ 50 ≤ (s.tickGap.tickStaleness.drive 0).itc.toNat := by omega
  have hbefore : ¬ 50 ≤ s.itc.toNat := by omega
  rw [edgeKind_eq_ite, edgeKind_eq_ite s, if_neg hafter, if_neg hbefore]
  rfl

/-- A completed-cycle or accepted edge clears ITC, and TSU with it in the last slot (R111, R112). -/
theorem takeEdge_closes {s : State} (h : s.edgeKind = .completedCycle ∨ s.edgeKind.accepted = true) :
    s.takeEdge.itc = 0 ∧ (s.idx = 2 → s.takeEdge.tsu = 0) := by
  rcases h with hkind | haccepted
  · obtain ⟨_, hidx⟩ := (edgeKind_eq_iff .completedCycle s).mp hkind
    refine ⟨by rw [takeEdge_itc, hkind]; rfl, fun htwo => ?_⟩
    rw [htwo] at hidx
    exact absurd hidx (by decide)
  · obtain ⟨hitc, _⟩ := takeEdge_clears (.inr haccepted)
    exact ⟨hitc, fun htwo => (takeEdge_completes htwo haccepted).2⟩

/-- At ITC = 49 a tick makes the EDGE after it a resync edge (R155). -/
theorem execSeq_tick_edge_resync {s : State} (hitc : s.itc = 49) (l : BitVec 2) (v : Bool) :
    execSeq [.tick, .edge l v] s = .next (s.tickGap.tickStaleness.resynchronise.drive 0) := by
  have hkind : (s.tickGap.tickStaleness.drive 0).edgeKind = .resync := by
    refine (edgeKind_eq_iff .resync _).mpr ?_
    rw [EntryCondition, State.drive_itc, State.tickStaleness_itc, tickGap_itc_toNat, hitc]
    decide
  rw [execSeq_cons (exec_tick s), execSeq_singleton, exec_edge_of_kind hkind]
  rfl

/-- A cleared counter is 1 after a tick (R83). -/
theorem exec_tick_of_cleared {s : State} (hitc : s.itc = 0) :
    ∃ u, exec .tick s = .next u ∧ u.itc = 1 ∧ (s.tsu = 0 → u.tsu = 1) := by
  refine ⟨_, exec_tick s, ?_, fun htsu => ?_⟩
  · rw [State.drive_itc, State.tickStaleness_itc, State.tickGap_itc, hitc]
    rfl
  · rw [State.drive_tsu, State.tickStaleness_tsu, State.tickGap_tsu, htsu]
    rfl

/-- Settles O32: counts and ticks commute; whether a tick comes before an EDGE decides its kind at ITC = 49 and the counters'
last value below it; a count before an EDGE at 1503 is the first that maps to 1; and RST after a command undoes it. -/
theorem simultaneousOrderConsequences : Obligations.SimultaneousOrderConsequences := by
  unfold Obligations.SimultaneousOrderConsequences
  refine ⟨execSeq_cnt_tick_comm [], fun s l v hitc => execSeq_tick_edge_resync hitc l v, fun s l v hkind => ?_,
    fun s l v hitc hkind => ?_, ?_, fun i s => ?_⟩
  · obtain ⟨hitc, htsu⟩ := takeEdge_closes hkind
    obtain ⟨u, hu, hone, hstale⟩ := exec_tick_of_cleared (s := s.takeEdge.drive 0) hitc
    exact ⟨u, (execSeq_cons (exec_edge l v s) [.tick]).trans ((execSeq_singleton _ _).trans hu), hone,
      fun htwo => hstale (htsu htwo)⟩
  · rw [← edgeKind_tick hitc] at hkind
    obtain ⟨hgap, hstale⟩ := takeEdge_closes hkind
    exact ⟨_, (execSeq_cons (exec_tick s) [.edge l v]).trans ((execSeq_singleton _ _).trans (exec_edge l v _)), hgap, hstale⟩
  · exact ⟨{ State.reset with tcnt := 1503 }, { State.reset with pos := #v[1, 0, 0], idx := 1 },
      { State.reset with idx := 1, tcnt := 1 }, by rfl, by rfl, by decide⟩
  · obtain ⟨t, ht⟩ := exec_completes i s
    refine ⟨_, exec_rst s, ?_, ?_⟩
    · rw [execSeq_cons ht, execSeq_singleton, exec_rst_after ht, exec_rst]
    · rw [execSeq_cons (exec_rst s), execSeq_singleton]

end Sys2Proof.Machine
end

section
/-! PROOFS. Stretches of commands with EDGE among them that move no position: bursts of debounced edges
(70_reset_and_hazards.md R173), the complete mode (R174, R179), incomplete cycles (R178), and long intervals (R175, R181). -/

namespace Sys2Proof.Machine

/-- The first command's edge comes before the others' (R114). -/
theorem edgeKindsOf_cons_eq {i : Instr} {s t : State} (h : exec i s = .next t) (is : List Instr) :
    edgeKindsOf (i :: is) s = edgeKindsOf [i] s ++ edgeKindsOf is t :=
  edgeKindsOf_append (execSeq_cons h []) is

/-- A command takes an edge only if it is an EDGE, and then of the kind its state decides. -/
theorem mem_edgeKindsOf_singleton {i : Instr} {s : State} {k : EdgeKind} (h : k ∈ edgeKindsOf [i] s) :
    isEdge i = true ∧ k = s.edgeKind := by
  by_cases hedge : isEdge i = true
  · obtain ⟨l, v, rfl⟩ := (isEdge_iff i).mp hedge
    exact ⟨rfl, List.mem_singleton.mp h⟩
  · obtain ⟨t, ht⟩ := exec_completes i s
    rw [edgeKindsOf_cons ht, if_neg hedge] at h
    cases h

/-- Occurrences in a sequence are those in its first command and those in the rest. -/
theorem count_cons_eq (i j : Instr) (is : List Instr) : (i :: is).count j = [i].count j + is.count j :=
  List.count_append (l₁ := [i])

/-! ## Debounced edges only -/

/-- A command that is neither RST nor an EDGE that does anything lets its own count or tick pass. -/
theorem exec_of_debounced {i : Instr} {s : State} (hrst : i ≠ .rst) (hkinds : ∀ k ∈ edgeKindsOf [i] s, k = .debounced) :
    ∃ r, exec i s = .next ((s.passTime ([i].count .cnt) ([i].count .tick)).drive r) := by
  by_cases hedge : isEdge i = true
  · obtain ⟨l, v, rfl⟩ := (isEdge_iff i).mp hedge
    have hkind : s.edgeKind = .debounced := hkinds _ (List.mem_singleton_self _)
    refine ⟨0, ?_⟩
    rw [exec_edge_of_kind hkind, EdgeKind.effect]
    simp [passTime_zero]
  · exact exec_quiet ((isQuiet_iff i).mpr ⟨hrst, Bool.eq_false_of_not_eq_true hedge⟩) s

/-- A sequence without RST whose every edge is debounced lets its counts and ticks pass, and nothing else happens (R104). -/
theorem execSeq_of_debounced {is : List Instr} {s : State} (hrst : Instr.rst ∉ is)
    (hkinds : ∀ k ∈ edgeKindsOf is s, k = .debounced) :
    ∃ r, execSeq is s = .next ((s.passTime (is.count .cnt) (is.count .tick)).drive r) := by
  induction is generalizing s with
  | nil => exact ⟨s.rdata, by rw [List.count_nil, List.count_nil, passTime_zero]; rfl⟩
  | cons i is ih =>
    rw [List.mem_cons, not_or] at hrst
    obtain ⟨hi, his⟩ := hrst
    obtain ⟨u, hu⟩ := exec_completes i s
    rw [edgeKindsOf_cons_eq hu, List.forall_mem_append] at hkinds
    obtain ⟨hfirst, hrest⟩ := hkinds
    obtain ⟨r, hr⟩ := exec_of_debounced (Ne.symm hi) hfirst
    cases hr.symm.trans hu
    obtain ⟨r', hr'⟩ := ih his hrest
    refine ⟨r', ?_⟩
    rw [execSeq_cons hr, hr', count_cons_eq i .cnt is, count_cons_eq i .tick is, ← passTime_passTime]
    rfl

/-- With a slot open, no reference older than 400 counts and no gap of 50 ticks, every edge is debounced (R104). -/
theorem edgeKindsOf_burst {is : List Instr} {s : State} (hidx : s.idx.toNat < 3) (hrst : Instr.rst ∉ is)
    (hticks : s.itc.toNat + is.count .tick < 50) (hcounts : s.tcnt.toNat + is.count .cnt < 400) :
    ∀ k ∈ edgeKindsOf is s, k = .debounced := by
  induction is generalizing s with
  | nil => exact fun k hk => absurd hk List.not_mem_nil
  | cons i is ih =>
    rw [List.mem_cons, not_or] at hrst
    obtain ⟨hi, his⟩ := hrst
    rw [count_cons_eq] at hticks hcounts
    have hkind : s.edgeKind = .debounced := (edgeKind_eq_iff .debounced s).mpr ⟨by omega, hidx, by omega⟩
    have hfirst : ∀ k ∈ edgeKindsOf [i] s, k = .debounced :=
      fun k hk => (mem_edgeKindsOf_singleton hk).2.trans hkind
    obtain ⟨r, hr⟩ := exec_of_debounced (Ne.symm hi) hfirst
    rw [edgeKindsOf_cons_eq hr, List.forall_mem_append]
    refine ⟨hfirst, ih hidx his ?_ ?_⟩
    · rw [State.drive_itc, passTime_itc_toNat]
      omega
    · rw [State.drive_tcnt, passTime_tcnt_toNat]
      omega

/-- Such a burst is a passing of time, after which an EDGE would be debounced as well. -/
theorem execSeq_burst {is : List Instr} {s : State} (hidx : s.idx.toNat < 3) (hrst : Instr.rst ∉ is)
    (hticks : s.itc.toNat + is.count .tick < 50) (hcounts : s.tcnt.toNat + is.count .cnt < 400) :
    ∃ r, execSeq is s = .next ((s.passTime (is.count .cnt) (is.count .tick)).drive r) ∧
      ((s.passTime (is.count .cnt) (is.count .tick)).drive r).edgeKind = .debounced := by
  obtain ⟨r, hrun⟩ := execSeq_of_debounced hrst (edgeKindsOf_burst hidx hrst hticks hcounts)
  refine ⟨r, hrun, (edgeKind_eq_iff .debounced _).mpr ⟨?_, hidx, ?_⟩⟩
  · rw [State.drive_itc, passTime_itc_toNat]
    omega
  · rw [State.drive_tcnt, passTime_tcnt_toNat]
    omega

/-- Settles O10: what follows a resync or accepted edge is a burst from cleared counters; an EDGE after an EDGE changes
nothing; and EDGE reads neither line nor level. -/
theorem edgeSoonAfterConsumedEdgeIsDebounced : Obligations.EdgeSoonAfterConsumedEdgeIsDebounced := by
  unfold Obligations.EdgeSoonAfterConsumedEdgeIsDebounced
  refine ⟨?_, fun s t l l' v v' h => exec_edge_edge h l' v', fun s l l' v v' => rfl⟩
  intro s t u l l' v v' is hkind hedge hrst hcounts hticks hrun hidx
  cases hedge
  obtain ⟨hitc, htcnt⟩ := takeEdge_clears hkind
  have hgap : (s.takeEdge.drive 0).itc.toNat = 0 := congrArg BitVec.toNat hitc
  have hage : (s.takeEdge.drive 0).tcnt.toNat = 0 := congrArg BitVec.toNat htcnt
  obtain ⟨r, hburst, hdebounced⟩ := execSeq_burst hidx hrst (by omega) (by omega)
  cases hburst.symm.trans hrun
  exact ⟨hdebounced, exec_edge_of_kind hdebounced l' v'⟩

/-- An edge is accepted where a slot waits for it, the gap is short and the reference old enough (R105). -/
theorem accepted_iff_entry (s : State) :
    s.edgeKind.accepted = true ↔ s.itc.toNat < 50 ∧ s.idx.toNat < 3 ∧ 400 ≤ s.tcnt.toNat := by
  rw [accepted_iff, edgeKind_eq_iff, edgeKind_eq_iff, EntryCondition, EntryCondition]
  omega

/-- A stored edge is an accepted one whose elapsed value is in the window (R106). -/
theorem stored_iff_window {s : State} (h : s.edgeKind.accepted = true) :
    s.edgeKind = .stored ↔ 800 < s.tcnt.toNat ∧ s.tcnt.toNat < 2200 := by
  obtain ⟨hitc, hidx, _⟩ := (accepted_iff_entry s).mp h
  rw [edgeKind_eq_iff, EntryCondition]
  exact ⟨fun ⟨_, _, hwindow⟩ => hwindow, fun hwindow => ⟨hitc, hidx, hwindow⟩⟩

/-- A value on RDATA neither stops time nor outlives the next value. -/
theorem passTime_drive (c t : Nat) (v : ReadData) (s : State) : (s.drive v).passTime c t = (s.passTime c t).drive v := rfl

theorem drive_drive (v w : ReadData) (s : State) : (s.drive v).drive w = s.drive w := rfl

/-- Settles O43: the burst is a passing of time, and so are the burst and the quiet wait together, at whose end the timer
holds the whole interval. -/
theorem debouncedBurstIsMeasuredFromReference : Obligations.DebouncedBurstIsMeasuredFromReference := by
  unfold Obligations.DebouncedBurstIsMeasuredFromReference
  intro burst wait s hidx hrst hquiet hticks hcounts hage hwrap
  obtain ⟨r, hburst, hdebounced⟩ := execSeq_burst hidx hrst (by omega) hcounts
  obtain ⟨r', hwait⟩ := execSeq_quiet hquiet ((s.passTime (burst.count .cnt) (burst.count .tick)).drive r)
  rw [passTime_drive, passTime_passTime, drive_drive] at hwait
  have htcnt : (s.passTime (burst.count .cnt + wait.count .cnt) (burst.count .tick + wait.count .tick)).tcnt.toNat =
      s.tcnt.toNat + burst.count .cnt + wait.count .cnt := by
    rw [passTime_tcnt_toNat]
    omega
  have haccepted : ((s.passTime (burst.count .cnt + wait.count .cnt)
      (burst.count .tick + wait.count .tick)).drive r').edgeKind.accepted = true := by
    rw [accepted_iff_entry, State.drive_itc, State.drive_tcnt, htcnt, passTime_itc_toNat]
    exact ⟨by omega, hidx, hage⟩
  refine ⟨⟨_, hburst, rfl, rfl, ?_, hdebounced⟩,
    ⟨_, (execSeq_append hburst wait).trans hwait, rfl, rfl, htcnt, haccepted, stored_iff_window haccepted⟩⟩
  rw [State.drive_tcnt, passTime_tcnt_toNat]
  omega

/-! ## Intervals without a consumed edge -/

/-- With a slot open, an edge that is neither a resync edge nor accepted is debounced (R114). -/
theorem edgeKind_debounced_of_not_consumed {s : State} (hidx : s.idx.toNat < 3) (hresync : s.edgeKind ≠ .resync)
    (haccepted : ¬ s.edgeKind.accepted = true) : s.edgeKind = .debounced := by
  rw [accepted_iff_entry] at haccepted
  rw [Ne, edgeKind_eq_iff, EntryCondition] at hresync
  rw [edgeKind_eq_iff, EntryCondition]
  omega

/-- From an open slot, a sequence without RST that consumes no edge debounces every one. -/
theorem edgeKindsOf_not_consumed {is : List Instr} {s : State} (hidx : s.idx.toNat < 3) (hrst : Instr.rst ∉ is)
    (hresync : EdgeKind.resync ∉ edgeKindsOf is s) (haccepted : acceptedIn is s = 0) :
    ∀ k ∈ edgeKindsOf is s, k = .debounced := by
  induction is generalizing s with
  | nil => exact fun k hk => absurd hk List.not_mem_nil
  | cons i is ih =>
    rw [List.mem_cons, not_or] at hrst
    obtain ⟨hi, his⟩ := hrst
    obtain ⟨u, hu⟩ := exec_completes i s
    rw [acceptedIn, List.countP_eq_zero] at haccepted
    rw [edgeKindsOf_cons_eq hu] at hresync haccepted ⊢
    rw [List.forall_mem_append] at haccepted ⊢
    rw [List.mem_append, not_or] at hresync
    obtain ⟨haccFirst, haccRest⟩ := haccepted
    obtain ⟨hresFirst, hresRest⟩ := hresync
    have hfirst : ∀ k ∈ edgeKindsOf [i] s, k = .debounced := by
      intro k hk
      obtain ⟨_, rfl⟩ := mem_edgeKindsOf_singleton hk
      exact edgeKind_debounced_of_not_consumed hidx (fun h => hresFirst (h ▸ hk)) (haccFirst _ hk)
    obtain ⟨r, hr⟩ := exec_of_debounced (Ne.symm hi) hfirst
    cases hr.symm.trans hu
    exact ⟨hfirst, ih hidx his hresRest (List.countP_eq_zero.mpr haccRest)⟩

/-- Settles O45: with no edge consumed the interval is a passing of time, whose 50 ticks bring ITC to the threshold. -/
theorem longIntervalResynchronisesAtTickRate : Obligations.LongIntervalResynchronisesAtTickRate := by
  unfold Obligations.LongIntervalResynchronisesAtTickRate
  intro is s t hidx hrst hresync haccepted hrate hlong hrun
  obtain ⟨r, hpass⟩ := execSeq_of_debounced hrst (edgeKindsOf_not_consumed hidx hrst hresync haccepted)
  cases hpass.symm.trans hrun
  rw [edgeKind_eq_iff, EntryCondition, State.drive_itc, passTime_itc_toNat]
  omega

end Sys2Proof.Machine
end

section
/-! PROOFS. Cycles: the complete mode until its resync (70_reset_and_hazards.md R174, R179), the cycle that stays incomplete
(R178), the gap that restores alignment (R171), and the clean cycle of three pulses (41_edge.md R108 to R111). -/

namespace Sys2Proof.Machine

/-! ## The complete mode -/

/-- The gap counter holds `g`. -/
def State.withGap (g : TickCount) (s : State) : State := { s with itc := g }

/-- At IDX = 3 an edge that is no resync edge is a completed-cycle edge (R102). -/
theorem edgeKind_completedCycle_of_complete {s : State} (hidx : s.idx.toNat = 3) (hresync : s.edgeKind ≠ .resync) :
    s.edgeKind = .completedCycle := by
  rw [Ne, edgeKind_eq_iff, EntryCondition] at hresync
  exact (edgeKind_eq_iff .completedCycle s).mpr ⟨by omega, hidx⟩

/-- At IDX = 3 a command that is neither RST nor a resync edge lets its count or tick pass and touches nothing else but the gap
counter; its edge, if it has one, is a completed-cycle edge (R102). -/
theorem exec_of_complete {i : Instr} {s : State} (hidx : s.idx.toNat = 3) (hrst : i ≠ .rst)
    (hresync : EdgeKind.resync ∉ edgeKindsOf [i] s) :
    (∃ g r, exec i s = .next (((s.passTime ([i].count .cnt) ([i].count .tick)).withGap g).drive r)) ∧
      ∀ k ∈ edgeKindsOf [i] s, k = .completedCycle := by
  by_cases hedge : isEdge i = true
  · obtain ⟨l, v, rfl⟩ := (isEdge_iff i).mp hedge
    rw [edgeKindsOf_edge, List.mem_singleton] at hresync
    have hkind := edgeKind_completedCycle_of_complete hidx (Ne.symm hresync)
    refine ⟨⟨0, 0, ?_⟩, fun k hk => (List.mem_singleton.mp hk).trans hkind⟩
    have hnoTime : s.passTime ([Instr.edge l v].count .cnt) ([Instr.edge l v].count .tick) = s := passTime_zero s
    rw [exec_edge_of_kind hkind, hnoTime]
    rfl
  · have hquiet : isQuiet i = true := (isQuiet_iff i).mpr ⟨hrst, Bool.eq_false_of_not_eq_true hedge⟩
    obtain ⟨r, hr⟩ := exec_quiet hquiet s
    refine ⟨⟨_, r, hr⟩, fun k hk => ?_⟩
    rw [edgeKindsOf_quiet hquiet] at hk
    cases hk

/-- From IDX = 3, until a resync edge or RST, time passes and nothing else moves but the gap counter (R102, R174). -/
theorem execSeq_of_complete {is : List Instr} {s : State} (hrst : Instr.rst ∉ is)
    (hresync : EdgeKind.resync ∉ edgeKindsOf is s) (hidx : s.idx.toNat = 3) :
    (∃ g r, execSeq is s = .next (((s.passTime (is.count .cnt) (is.count .tick)).withGap g).drive r)) ∧
      ∀ k ∈ edgeKindsOf is s, k = .completedCycle := by
  induction is generalizing s with
  | nil =>
    refine ⟨⟨s.itc, s.rdata, ?_⟩, fun k hk => absurd hk List.not_mem_nil⟩
    rw [List.count_nil, List.count_nil, passTime_zero]
    rfl
  | cons i is ih =>
    rw [List.mem_cons, not_or] at hrst
    obtain ⟨hi, his⟩ := hrst
    obtain ⟨u, hu⟩ := exec_completes i s
    rw [edgeKindsOf_cons_eq hu] at hresync ⊢
    rw [List.mem_append, not_or] at hresync
    obtain ⟨hresFirst, hresRest⟩ := hresync
    obtain ⟨⟨g, r, hfirst⟩, hkind⟩ := exec_of_complete hidx (Ne.symm hi) hresFirst
    cases hfirst.symm.trans hu
    obtain ⟨⟨g', r', hrest⟩, hkinds⟩ := ih his hresRest hidx
    refine ⟨⟨g', r', ?_⟩, List.forall_mem_append.mpr ⟨hkind, hkinds⟩⟩
    rw [execSeq_cons hfirst, hrest, count_cons_eq i .cnt is, count_cons_eq i .tick is, ← passTime_passTime]
    rfl

/-- Only TICK raises the gap counter (R29). -/
theorem exec_itc_le {i : Instr} {s t : State} (h : exec i s = .next t) (htick : i ≠ .tick) :
    t.itc.toNat ≤ s.itc.toNat := by
  by_cases hsame : t.itc = s.itc
  · rw [hsame]
  · rcases exec_itc_writers h hsame with ⟨hi, _⟩ | ⟨hzero, _⟩
    · exact absurd hi htick
    · rw [hzero]
      exact Nat.zero_le _

/-- Without ticks the gap counter does not reach its threshold, and no edge is a resync edge (R179). -/
theorem no_resync_without_ticks {is : List Instr} {s : State} (hitc : s.itc.toNat < 50) (hticks : Instr.tick ∉ is) :
    EdgeKind.resync ∉ edgeKindsOf is s := by
  induction is generalizing s with
  | nil => exact List.not_mem_nil
  | cons i is ih =>
    rw [List.mem_cons, not_or] at hticks
    obtain ⟨hi, his⟩ := hticks
    obtain ⟨u, hu⟩ := exec_completes i s
    rw [edgeKindsOf_cons_eq hu, List.mem_append, not_or]
    refine ⟨fun hmem => ?_, ih ((exec_itc_le hu (Ne.symm hi)).trans_lt hitc) his⟩
    have hresync : 50 ≤ s.itc.toNat := (edgeKind_eq_iff .resync s).mp (mem_edgeKindsOf_singleton hmem).2.symm
    omega

/-- R28's mode at IDX = 3. -/
theorem mode_eq_complete {s : State} (hidx : s.idx.toNat = 3) : s.mode = .complete :=
  if_neg (by rw [slotOpen_iff]; omega)

/-- Settles O44: in the complete mode only time passes, and without ticks the mode is not left. -/
theorem completeModeHoldsUntilResync : Obligations.CompleteModeHoldsUntilResync := by
  unfold Obligations.CompleteModeHoldsUntilResync
  refine ⟨fun is s t hidx hrst hresync hrun => ?_, fun is s hitc hticks => no_resync_without_ticks hitc hticks⟩
  have hthree : s.idx.toNat = 3 := congrArg BitVec.toNat hidx
  obtain ⟨⟨g, r, hpass⟩, hkinds⟩ := execSeq_of_complete hrst hresync hthree
  cases hpass.symm.trans hrun
  exact ⟨hidx, mode_eq_complete hthree, rfl, passTime_tsu_toNat (is.count Instr.cnt) (is.count Instr.tick) s,
    passTime_tcnt_toNat (is.count Instr.cnt) (is.count Instr.tick) s, hkinds⟩

/-! ## Cycles that stay incomplete -/

/-- A command that neither is RST nor leaves IDX at 3 adds its tick to TSU and clears nothing of it (R111). -/
theorem exec_tsu_of_incomplete {i : Instr} {s t : State} (h : exec i s = .next t) (hrst : i ≠ .rst)
    (hidx : t.idx.toNat < 3) : t.tsu.toNat = min (s.tsu.toNat + [i].count .tick) 65535 := by
  by_cases hedge : isEdge i = true
  · obtain ⟨l, v, rfl⟩ := (isEdge_iff i).mp hedge
    cases h
    have hopen : ¬ (s.edgeKind.accepted = true ∧ s.idx = 2) := by
      rintro ⟨haccepted, htwo⟩
      rw [State.drive_idx, (takeEdge_completes htwo haccepted).1] at hidx
      exact absurd hidx (by decide)
    have hlt : s.tsu.toNat < 65536 := s.tsu.isLt
    have hticks : [Instr.edge l v].count .tick = 0 := rfl
    rw [State.drive_tsu, takeEdge_tsu, if_neg hopen, hticks]
    omega
  · obtain ⟨r, hr⟩ := exec_quiet ((isQuiet_iff i).mpr ⟨hrst, Bool.eq_false_of_not_eq_true hedge⟩) s
    cases hr.symm.trans h
    exact passTime_tsu_toNat ([i].count Instr.cnt) ([i].count Instr.tick) s

/-- A sequence without RST and resync edge that ends below IDX = 3 adds its ticks to TSU and clears nothing of it: IDX never
falls, so no edge in it completed a cycle. -/
theorem execSeq_tsu_of_incomplete {is : List Instr} {s t : State} (hrst : Instr.rst ∉ is)
    (hresync : EdgeKind.resync ∉ edgeKindsOf is s) (h : execSeq is s = .next t) (hidx : t.idx.toNat < 3) :
    t.tsu.toNat = min (s.tsu.toNat + is.count .tick) 65535 := by
  induction is generalizing s with
  | nil =>
    cases h
    have hlt : t.tsu.toNat < 65536 := t.tsu.isLt
    rw [List.count_nil]
    omega
  | cons i is ih =>
    rw [List.mem_cons, not_or] at hrst
    obtain ⟨hi, his⟩ := hrst
    obtain ⟨u, hu⟩ := exec_completes i s
    rw [edgeKindsOf_cons_eq hu, List.mem_append, not_or] at hresync
    obtain ⟨_, hresRest⟩ := hresync
    rw [execSeq_cons hu] at h
    have hslot : u.idx.toNat < 3 := by
      have hcount := execSeq_idx_toNat his hresRest h
      omega
    rw [ih his hresRest h, exec_tsu_of_incomplete hu (Ne.symm hi) hslot, count_cons_eq i .tick is]
    omega

/-- Settles O12: IDX is the number of accepted edges, so it stays below 3 and no edge completes the cycle. -/
theorem incompleteCycleNeverClearsStaleness : Obligations.IncompleteCycleNeverClearsStaleness := by
  unfold Obligations.IncompleteCycleNeverClearsStaleness
  intro is s t hidx hrst hresync haccepted hrun
  have hstart : s.idx.toNat = 0 := congrArg BitVec.toNat hidx
  have hcount : t.idx.toNat = s.idx.toNat + acceptedIn is s := execSeq_idx_toNat hrst hresync hrun
  have hslot : t.idx.toNat < 3 := by omega
  exact ⟨hslot, execSeq_tsu_of_incomplete hrst hresync hrun hslot⟩

/-! ## The resync gap and the pulses after it -/

/-- A quiet wait and an EDGE: the edge takes the state in which the wait's time has passed. -/
theorem execSeq_wait_edge {wait : List Instr} (hquiet : ∀ i ∈ wait, isQuiet i = true) (l : BitVec 2) (v : Bool) (s : State) :
    execSeq (wait ++ [.edge l v]) s = .next ((s.passTime (wait.count .cnt) (wait.count .tick)).takeEdge.drive 0) := by
  obtain ⟨r, hwait⟩ := execSeq_quiet hquiet s
  rw [execSeq_append hwait, execSeq_singleton, exec_edge, takeEdge_drive]
  rfl

/-- A gap of 50 ticks makes the edge after it a resync edge (R101, R171). -/
theorem execSeq_gap_edge {gap : List Instr} {s : State} (hquiet : ∀ i ∈ gap, isQuiet i = true)
    (hgap : 50 ≤ s.itc.toNat + gap.count .tick) (l : BitVec 2) (v : Bool) :
    execSeq (gap ++ [.edge l v]) s =
      .next ((s.passTime (gap.count .cnt) (gap.count .tick)).resynchronise.drive 0) := by
  have hkind : (s.passTime (gap.count .cnt) (gap.count .tick)).edgeKind = .resync := by
    rw [edgeKind_eq_iff, EntryCondition, passTime_itc_toNat]
    omega
  rw [execSeq_wait_edge hquiet, takeEdge_eq_effect, hkind, EdgeKind.effect]

/-- Settles O46: the gap's edge is a resync edge, which clears all but POS and TSU. -/
theorem gapThenEdgeRestoresAlignment : Obligations.GapThenEdgeRestoresAlignment := by
  unfold Obligations.GapThenEdgeRestoresAlignment
  intro gap l v s hquiet hgap
  exact ⟨_, execSeq_gap_edge hquiet hgap l v, rfl, rfl, rfl, rfl, rfl,
    passTime_tsu_toNat (gap.count Instr.cnt) (gap.count Instr.tick) s⟩

/-- The registers as a consumed edge leaves them before slot `k`: the sequencer there, the gap and the timer cleared. -/
structure State.AwaitsSlot (k : Nat) (s : State) : Prop where
  idx : s.idx.toNat = k
  itc : s.itc = 0
  tcnt : s.tcnt = 0

/-- A pulse of `801 ≤ counts ≤ 2199` and fewer than 50 ticks is stored in the slot that waits for it (R108, R110, R111). -/
theorem execSeq_pulse {before wait : List Instr} {s₀ s : State} {k : Nat} (hbefore : execSeq before s₀ = .next s)
    (hs : s.AwaitsSlot k) (hk : k < 3) (hquiet : ∀ i ∈ wait, isQuiet i = true) (hticks : wait.count .tick < 50)
    (hwindow : 800 < wait.count .cnt ∧ wait.count .cnt < 2200) (l : BitVec 2) (v : Bool) :
    ∃ t, execSeq (before ++ wait ++ [.edge l v]) s₀ = .next t ∧ t.AwaitsSlot (k + 1) ∧ (k = 2 → t.tsu = 0) ∧
      t.pos = s.pos.set k (BitVec.ofInt 8 (positionOf Config.hw (wait.count .cnt))) := by
  obtain ⟨hidx, hitc, htcnt⟩ := hs
  have hgap₀ : s.itc.toNat = 0 := congrArg BitVec.toNat hitc
  have hage₀ : s.tcnt.toNat = 0 := congrArg BitVec.toNat htcnt
  have hrun := execSeq_wait_edge hquiet l v s
  have hpos : (s.passTime (wait.count .cnt) (wait.count .tick)).pos = s.pos := rfl
  have hslot : (s.passTime (wait.count .cnt) (wait.count .tick)).idx.toNat = k := hidx
  have helapsed : (s.passTime (wait.count .cnt) (wait.count .tick)).tcnt.toNat = wait.count .cnt := by
    rw [passTime_tcnt_toNat]
    omega
  have hshort : (s.passTime (wait.count .cnt) (wait.count .tick)).itc.toNat < 50 := by
    rw [passTime_itc_toNat]
    omega
  generalize s.passTime (wait.count .cnt) (wait.count .tick) = u at hrun hpos hslot helapsed hshort
  have hkind : u.edgeKind = .stored := by
    rw [edgeKind_eq_iff, EntryCondition]
    omega
  have haccepted : u.edgeKind.accepted = true := by rw [hkind]; rfl
  obtain ⟨hgap, htimer⟩ := takeEdge_clears (.inr haccepted)
  refine ⟨u.takeEdge.drive 0, ?_, ⟨?_, hgap, htimer⟩, fun htwo => ?_, ?_⟩
  · rw [List.append_assoc, execSeq_append hbefore, hrun]
  · rw [State.drive_idx, takeEdge_idx_toNat (by rw [hkind]; decide), hslot, if_pos haccepted]
  · exact (takeEdge_closes (.inr haccepted)).2 (BitVec.eq_of_toNat_eq (hslot.trans htwo))
  · apply Vector.ext
    intro j hj
    have hentry := takeEdge_pos_getElem u ⟨j, hj⟩
    rw [State.drive_pos, Vector.getElem_set, ← hpos, ← helapsed]
    simpa [hkind, hslot, State.elapsed] using hentry

/-- Settles O47: the gap's edge awaits slot 0, and each pulse is stored in its slot and awaits the next. -/
theorem cleanCycleDecodesThreePulses : Obligations.CleanCycleDecodesThreePulses := by
  unfold Obligations.CleanCycleDecodesThreePulses
  intro gap g₁ g₂ g₃ l₀ l₁ l₂ l₃ v₀ v₁ v₂ v₃ s hquiet hgap ht₁ ht₂ ht₃ hw₁ hw₂ hw₃
  rw [List.forall_mem_append, List.forall_mem_append, List.forall_mem_append] at hquiet
  obtain ⟨⟨⟨hq₀, hq₁⟩, hq₂⟩, hq₃⟩ := hquiet
  have hrun₀ := execSeq_gap_edge hq₀ hgap l₀ v₀
  obtain ⟨s₁, hrun₁, hs₁, _, hpos₁⟩ := execSeq_pulse hrun₀ (k := 0) ⟨rfl, rfl, rfl⟩ (by decide) hq₁ ht₁ hw₁ l₁ v₁
  obtain ⟨s₂, hrun₂, hs₂, _, hpos₂⟩ := execSeq_pulse hrun₁ hs₁ (by decide) hq₂ ht₂ hw₂ l₂ v₂
  obtain ⟨s₃, hrun₃, hs₃, hstale, hpos₃⟩ := execSeq_pulse hrun₂ hs₂ (by decide) hq₃ ht₃ hw₃ l₃ v₃
  obtain ⟨hidx, hitc, htcnt⟩ := hs₃
  have hstored (e : Nat) : (BitVec.ofInt 8 (positionOf Config.hw e)).toInt = positionOf Config.hw e :=
    toInt_ofInt_of_range (positionOf_range hw_admissible e)
  rw [hpos₂, hpos₁] at hpos₃
  refine ⟨s₃, hrun₃, ?_, ?_, ?_, BitVec.eq_of_toNat_eq hidx, hstale rfl, hitc, htcnt⟩
  · rw [← hstored, hpos₃]
    simp
  · rw [← hstored, hpos₃]
    simp
  · rw [← hstored, hpos₃]
    simp

/-! ## What repeats without effect, and what does not -/

/-- A run of counts lets that many counts pass and no tick. -/
theorem execSeq_counts (k : Nat) (s : State) :
    ∃ r, execSeq (List.replicate k .cnt) s = .next ((s.passTime k 0).drive r) := by
  obtain ⟨r, hrun⟩ := execSeq_quiet (is := List.replicate k .cnt)
    (fun i hi => by rw [List.eq_of_mem_replicate hi]; rfl) s
  rw [List.count_replicate_self, List.count_replicate, if_neg (by decide)] at hrun
  exact ⟨r, hrun⟩

/-- An accepted edge in slot 0, and 400 counts later an edge in slot 1 (R100, R105). -/
theorem edge_again_takes_next_slot {s : State} (hidx : s.idx = 0) (hitc : s.itc.toNat < 50) (htcnt : 400 ≤ s.tcnt.toNat)
    (l l' : BitVec 2) (v v' : Bool) :
    ∃ t u : State, execSeq (.edge l v :: List.replicate 400 .cnt) s = .next t ∧ t.idx = 1 ∧
      exec (.edge l' v') t = .next u ∧ u.idx = 2 := by
  have hfirst : s.edgeKind.accepted = true := (accepted_iff_entry s).mpr ⟨hitc, by rw [hidx]; decide, htcnt⟩
  obtain ⟨hgap, htimer⟩ := takeEdge_clears (.inr hfirst)
  have hone : s.takeEdge.idx = 1 := by
    rw [takeEdge_of_accepted hfirst, State.clearGap_idx, acceptEdge_idx, hidx]
    rfl
  obtain ⟨r, hwait⟩ := execSeq_counts 400 (s.takeEdge.drive 0)
  have hsecond : (((s.takeEdge.drive 0).passTime 400 0).drive r).edgeKind.accepted = true := by
    rw [accepted_iff_entry, State.drive_itc, State.drive_tcnt, passTime_itc_toNat, passTime_tcnt_toNat, State.drive_itc,
      State.drive_tcnt, hgap, htimer]
    refine ⟨by decide, ?_, by decide⟩
    show s.takeEdge.idx.toNat < 3
    rw [hone]
    decide
  refine ⟨_, _, (execSeq_cons (exec_edge l v s) _).trans hwait, hone, exec_edge l' v' _, ?_⟩
  rw [State.drive_idx, takeEdge_of_accepted hsecond, State.clearGap_idx, acceptEdge_idx]
  show s.takeEdge.idx + 1 = 2
  rw [hone]
  rfl

/-- Settles O16: an accessor and NOP write nothing but RDATA, RST reads only the ports, CNT and TICK count from the reset
state, and the second edge is accepted in the next slot. -/
theorem readsRepeatAndResetIsIdempotent : Obligations.ReadsRepeatAndResetIsIdempotent := by
  unfold Obligations.ReadsRepeatAndResetIsIdempotent
  refine ⟨fun i s haccessor => ?_, fun s => ⟨_, exec_nop s, rfl⟩, fun s => ⟨_, exec_rst s, exec_rst_after (exec_rst s)⟩,
    ⟨State.reset, _, _, exec_cnt _, exec_cnt _, by decide⟩, ⟨State.reset, _, _, exec_tick _, exec_tick _, by decide⟩,
    fun s l l' v v' hidx hitc htcnt => edge_again_takes_next_slot hidx hitc htcnt l l' v v'⟩
  obtain ⟨r, hr⟩ := exec_accessor haccessor s
  exact ⟨s.drive r, hr, (exec_drive i r s).trans hr, rfl⟩

end Sys2Proof.Machine
end

section
/-! PROOFS. The assembler (30_encoding.md R71): the text of each command reads as that command, so it assembles to its word. -/

namespace Sys2Proof.Machine

/-- RDPOS's spelling reads as RDPOS for each of the 32 channel indices (R63, R71). -/
theorem readLine_commandText_rdpos (ch : BitVec 5) :
    readLine (commandText (.rdpos ch)) = some (some (.command (.rdpos ch))) := by
  decide +revert

/-- EDGE's spelling reads as EDGE for each of the three lines and two levels (R62, R71). -/
theorem readLine_commandText_edge {l : BitVec 2} (v : Bool) (h : l ≠ 3#2) :
    readLine (commandText (.edge l v)) = some (some (.command (.edge l v))) := by
  decide +revert

/-- The spelling of a well-formed command reads as that command (R71). -/
theorem readLine_commandText {i : Instr} (h : i.wellFormed = true) :
    readLine (commandText i) = some (some (.command i)) := by
  cases i with
  | nop => decide
  | rst => decide
  | cnt => decide
  | tick => decide
  | edge l v => exact readLine_commandText_edge v (bne_iff_ne.mp h)
  | rdpos ch => exact readLine_commandText_rdpos ch
  | rdtsu => decide

/-- A line that reads as one command assembles to that command's word. -/
theorem assembleLine_of_readLine {text : List Char} {i : Instr} (h : readLine text = some (some (.command i))) :
    assembleLine text = some [encode i] := by
  rw [assembleLine, h]
  rfl

/-- Settles O22: the spelling of a well-formed command reads as that command; the four other lines are evaluated. -/
theorem commandTextAssemblesToItsWord : Obligations.CommandTextAssemblesToItsWord := by
  unfold Obligations.CommandTextAssemblesToItsWord
  exact ⟨fun i hwf => assembleLine_of_readLine (readLine_commandText hwf), by decide, by decide, by decide, by decide⟩

end Sys2Proof.Machine
end
